-- ==== Sys2Proof/Word.lean ====
section
/-! DEFINITION. The number types of the ZGC48: bytes and wire words as bit vectors, identifiers as bounded numbers. -/

namespace Sys2Proof

/-- One character of an operator port, one byte of a Hoist Bus field. -/
abbrev Byte := BitVec 8

/-- A two-byte field. -/
abbrev Word16 := BitVec 16

/-- A three-byte field: positions, heights and distances travel in this width (Table 10-1). -/
abbrev Word24 := BitVec 24

/-- A node identity (00_scope.md 6.2). -/
abbrev Identity := BitVec 32

/-- A 12-bit raw load code (Table 10-8). -/
abbrev Code := BitVec 12

/-- A rigging point; point number n of the manual is the value n - 1. -/
abbrev PointId := Fin 48

/-- A Hoist Bus slot, 0 to 47. -/
abbrev SlotId := Fin 48

/-- A group; group number n of the manual is the value n - 1. -/
abbrev GroupId := Fin 16

end Sys2Proof
end

