-- ==== Sys2Proof/Syntax.lean ====
section
/-! DEFINITION. The commands of the ZGC48: one constructor for each row of the opcode table. An event carries what the
outside world gives it. A request carries the port it arrives on, its TAG, and the payload fields of Table 10-3 at
their wire width, so that an argument out of range is an operand like any other. -/

namespace Sys2Proof

/-- An operator port (00_scope.md 6.2). -/
inductive Port where
  | a | b | c
deriving DecidableEq, Repr

/-- The level of a discrete line. -/
inductive Level where
  | low | high
deriving DecidableEq, Repr

/-- The seven bytes of an upstream slot field, in the order sent (Table 10-8). -/
structure UpField where
  b0 : Byte
  b1 : Byte
  b2 : Byte
  b3 : Byte
  b4 : Byte
  b5 : Byte
  b6 : Byte
deriving DecidableEq, Repr

/-- What ends a service message exchange (R36 to R39): the response message completed with these bytes, or the
transfer failed. -/
inductive JobEnd where
  | response (bytes : List Byte)
  | timeout
  | aborted
  | lost
deriving DecidableEq, Repr

/-- The commands of the block, one for each row of spec/opcode_table.json. -/
inductive Instr where
  /-- RESETN_ASSERT (R1): RESETn is asserted. -/
  | resetnAssert
  /-- RESETN_RELEASE (R1, R127, R137): RESETn is released with the two input lines at these levels. -/
  | resetnRelease (estopLine : Level) (cueLine : Level)
  /-- FRAME (R21): a new Hoist Bus frame begins. -/
  | frame
  /-- UPSTREAM_FIELD (R23, R24): a slot's upstream field is taken; none when the node sent nothing. -/
  | upstreamField (slot : SlotId) (field : Option UpField)
  /-- SLOT_JOINING (R7): the presence counter of an EMPTY slot reaches 4. -/
  | slotJoining (slot : SlotId)
  /-- SLOT_LOST (R9): the miss counter of a slot reaches 8. -/
  | slotLost (slot : SlotId)
  /-- SERVICE_JOB_END (R39): the active service message exchange ends. -/
  | serviceJobEnd (ending : JobEnd)
  /-- SERVICE_JOB_START (R41): the Service Engine looks for a job to start. -/
  | serviceJobStart
  /-- SERVICE_TIMEOUT (R36, R37): the 64 frames of the awaited byte or END have run out. -/
  | serviceTimeout
  /-- RUN_TIMER_EXPIRY (R108): the run timer of the member that this point is expires. -/
  | runTimerExpiry (point : PointId)
  /-- RUNAWAY_ALLOWANCE_EXPIRY (R125): 1500 ms have passed since the point's last-run mark. -/
  | runawayAllowanceExpiry (point : PointId)
  /-- ESTOP_ASSERTION (R128): the ESTOP line falls. -/
  | estopAssertion
  /-- ESTOP_RELEASE (R129): the ESTOP line rises. -/
  | estopRelease
  /-- CUE_LINE_CHANGE (R143): the CUE line changes to this level. -/
  | cueLineChange (level : Level)
  /-- REARM_TIMER_EXPIRY (R144): the re-arm timer expires. -/
  | rearmTimerExpiry
  /-- RX_CHARACTER (R154): a character arrives; stopBit says whether its stop bit was found. -/
  | rxCharacter (port : Port) (char : Byte) (stopBit : Bool)
  /-- GAP_TIMER_EXPIRY (R155): 20 ms have passed without a character. -/
  | gapTimerExpiry (port : Port)
  /-- FRAME_RECEIVED (R156): a complete frame has been received; its LEN is the payload's length. -/
  | frameReceived (port : Port) (typ : Byte) (tag : Byte) (payload : List Byte) (crc : Word16)
  /-- TX_FRAME_END (R164): the last character of the head frame has been sent. -/
  | txFrameEnd (port : Port)
  /-- LINK_TIMER_EXPIRY (R158): 1000 ms have passed without a valid frame. -/
  | linkTimerExpiry (port : Port)
  /-- ENABLE_WINDOW_EXPIRY (R160): 200 ms have passed since the last ENABLE(1). -/
  | enableWindowExpiry (port : Port)
  /-- PATCH_POINT (R14): set a point's identity, soft limits and trim. -/
  | patchPoint (port : Port) (tag : Byte) (point : Byte) (identity : Identity) (softMin : Word24) (softMax : Word24) (trim : Word16)
  /-- UNPATCH (R17): remove a point's identity. -/
  | unpatch (port : Port) (tag : Byte) (point : Byte)
  /-- POINT_READ (R19): read a point's record. -/
  | pointRead (port : Port) (tag : Byte) (point : Byte)
  /-- SLOT_READ (R20): read up to 7 slots. -/
  | slotRead (port : Port) (tag : Byte) (first : Byte) (count : Byte)
  /-- BUS_CONFIG (R33): set the epoch length and acceptance mode. -/
  | busConfig (port : Port) (tag : Byte) (epoch : Byte) (mode : Byte)
  /-- TARE (R54): queue a CAL_WRITE with a zero taken from the window. -/
  | tare (port : Port) (tag : Byte) (point : Byte)
  /-- CAL_WRITE (R55): queue a CAL_WRITE. -/
  | calWrite (port : Port) (tag : Byte) (point : Byte) (zero : Word16) (span : Word16) (wll : Word16)
  /-- CAL_READ (R56): queue a CAL_READ. -/
  | calRead (port : Port) (tag : Byte) (point : Byte)
  /-- CLEAR_LOAD_ALARM (R61): end latched load conditions whose load has come back. -/
  | clearLoadAlarm (port : Port) (tag : Byte) (point : Byte)
  /-- SET_LOAD_LIMITS (R62): set the load limits and alarm mode. -/
  | setLoadLimits (port : Port) (tag : Byte) (point : Byte) (high : Word16) (low : Word16) (hyst : Word16) (mode : Byte)
  /-- SET_DUTY_LIMIT (R66): set the duty limit. -/
  | setDutyLimit (port : Port) (tag : Byte) (point : Byte) (limit : Word16)
  /-- LOAD_READ (R67): read a point's load part. -/
  | loadRead (port : Port) (tag : Byte) (point : Byte)
  /-- SET_MEMBERS (R71): replace a group's member list. -/
  | setMembers (port : Port) (tag : Byte) (group : Byte) (points : List Byte)
  /-- CLAIM (R75): claim a group. -/
  | claim (port : Port) (tag : Byte) (group : Byte)
  /-- RELEASE (R76): give up a claim. -/
  | release (port : Port) (tag : Byte) (group : Byte)
  /-- TAKEOVER (R77): take a free or orphaned group. -/
  | takeover (port : Port) (tag : Byte) (group : Byte)
  /-- SET_BANDS (R83): set a group's bands. -/
  | setBands (port : Port) (tag : Byte) (group : Byte) (pause : Word16) (resume : Word16) (trip : Word16) (share : Word16) (tolerance : Word16)
  /-- GROUP_READ (R85): read a group. -/
  | groupRead (port : Port) (tag : Byte) (group : Byte)
  /-- MOVE_TO (R89): start a move that takes the lead point to a height. -/
  | moveTo (port : Port) (tag : Byte) (group : Byte) (height : Word24)
  /-- MOVE_BY (R89): start a move by a distance. -/
  | moveBy (port : Port) (tag : Byte) (group : Byte) (distance : Word24)
  /-- JOG (R94): start a jog. -/
  | jog (port : Port) (tag : Byte) (group : Byte) (direction : Byte)
  /-- STOP (R111): stop a group. -/
  | stop (port : Port) (tag : Byte) (group : Byte)
  /-- ACK_FAULT (R115): acknowledge a group's fault. -/
  | ackFault (port : Port) (tag : Byte) (group : Byte)
  /-- SET_STOP_LEAD (R104): set a point's stop lead. -/
  | setStopLead (port : Port) (tag : Byte) (point : Byte) (lead : Word16)
  /-- MOTION_READ (R117): read a group's motion. -/
  | motionRead (port : Port) (tag : Byte) (group : Byte) (first : Option Byte)
  /-- CLEAR_STOP_FLAGS (R122): clear a point's stop flags and runaway flag. -/
  | clearStopFlags (port : Port) (tag : Byte) (point : Byte)
  /-- SET_STOP_CONFIG (R124): set a point's detection modes and masks. -/
  | setStopConfig (port : Port) (tag : Byte) (point : Byte) (modes : Byte) (masks : Byte)
  /-- MAINS_CLOSE (R131): close the mains. -/
  | mainsClose (port : Port) (tag : Byte)
  /-- MAINS_OPEN (R132): trip the mains. -/
  | mainsOpen (port : Port) (tag : Byte)
  /-- GRID_HOLD_SET (R134): set the requesting port's hold. -/
  | gridHoldSet (port : Port) (tag : Byte)
  /-- GRID_HOLD_CLEAR (R135): clear a hold. -/
  | gridHoldClear (port : Port) (tag : Byte) (target : Option Byte)
  /-- STOP_READ (R136): read a point's stop part. -/
  | stopRead (port : Port) (tag : Byte) (point : Byte)
  /-- STOP_STATUS (R136): read the device-wide stop state. -/
  | stopStatus (port : Port) (tag : Byte)
  /-- CUE_WRITE (R138): replace or append a cue entry. -/
  | cueWrite (port : Port) (tag : Byte) (index : Byte) (group : Byte) (action : Byte) (value : Word24) (follow : Byte)
  /-- CUE_CLEAR (R139): empty the cue list. -/
  | cueClear (port : Port) (tag : Byte)
  /-- CUE_OWN (R140): take the cues. -/
  | cueOwn (port : Port) (tag : Byte)
  /-- CUE_DISOWN (R140): give up the cues. -/
  | cueDisown (port : Port) (tag : Byte)
  /-- CUE_CONFIG (R141): set the GO source and line mode. -/
  | cueConfig (port : Port) (tag : Byte) (source : Byte) (mode : Byte)
  /-- CUE_ARM (R142): arm the engine. -/
  | cueArm (port : Port) (tag : Byte) (start : Option Byte)
  /-- CUE_OFF (R142): set the engine OFF. -/
  | cueOff (port : Port) (tag : Byte)
  /-- CUE_GO (R145): a console GO. -/
  | cueGo (port : Port) (tag : Byte)
  /-- CUE_SKIP (R149): skip an entry. -/
  | cueSkip (port : Port) (tag : Byte)
  /-- CUE_READ (R152): read the engine and up to 6 entries. -/
  | cueRead (port : Port) (tag : Byte) (first : Byte) (count : Byte)
  /-- ENABLE (R159): raise or drop the enable. -/
  | enable (port : Port) (tag : Byte) (level : Byte)
  /-- PORT_STATUS (R166): read the ports' status. -/
  | portStatus (port : Port) (tag : Byte)
  /-- NOTICE_READ (R170): read and remove notices. -/
  | noticeRead (port : Port) (tag : Byte)
  /-- NOTICE_MASK (R172): replace the suppress set. -/
  | noticeMask (port : Port) (tag : Byte) (kinds : BitVec 32)
  /-- WARN_CONFIG (R174): set the WARN causes and polarity. -/
  | warnConfig (port : Port) (tag : Byte) (enables : Byte) (polarity : Byte)
deriving DecidableEq, Repr

end Sys2Proof
end

