-- ==== Sys2Proof/Decode.lean ====
section
/-! DEFINITION. The request frames of Table 10-3 and back: TYPE and payload to a command, and a command to TYPE and
payload; the byte order of R175. The opcode table itself gives no row any bits, so decodeTableWord reads none. -/

namespace Sys2Proof

/-! ## Byte order: most significant byte first (R175) -/

/-- A two-byte field from its bytes in the order sent. -/
def word2 (h l : Byte) : Word16 := h ++ l

/-- A three-byte field from its bytes in the order sent. -/
def word3 (h m l : Byte) : Word24 := h ++ m ++ l

/-- A four-byte field from its bytes in the order sent. -/
def word4 (a b c d : Byte) : BitVec 32 := a ++ b ++ c ++ d

/-- The bytes of a two-byte field in the order sent. -/
def bytes2 (w : Word16) : List Byte := [w.extractLsb' 8 8, w.extractLsb' 0 8]

/-- The bytes of a three-byte field in the order sent. -/
def bytes3 (w : Word24) : List Byte := [w.extractLsb' 16 8, w.extractLsb' 8 8, w.extractLsb' 0 8]

/-- The bytes of a four-byte field in the order sent. -/
def bytes4 (w : BitVec 32) : List Byte :=
  [w.extractLsb' 24 8, w.extractLsb' 16 8, w.extractLsb' 8 8, w.extractLsb' 0 8]

/-! ## Reading a request (R162 steps 2 and 3) -/

/-- What a valid frame asks for: a TYPE that names no request, a LEN that the request does not permit, or a request. -/
inductive Parsed where
  | unknown
  | badLength
  | request (i : Instr)
deriving DecidableEq, Repr


/-- PATCH_POINT: LEN 13 (Table 10-3). -/
def parsePatchPoint (p : Port) (tag : Byte) : List Byte → Parsed
  | [x0, x1, x2, x3, x4, x5, x6, x7, x8, x9, x10, x11, x12] => .request (.patchPoint p tag x0 (word4 x1 x2 x3 x4) (word3 x5 x6 x7) (word3 x8 x9 x10) (word2 x11 x12))
  | _ => .badLength

/-- UNPATCH: LEN 1 (Table 10-3). -/
def parseUnpatch (p : Port) (tag : Byte) : List Byte → Parsed
  | [x0] => .request (.unpatch p tag x0)
  | _ => .badLength

/-- POINT_READ: LEN 1 (Table 10-3). -/
def parsePointRead (p : Port) (tag : Byte) : List Byte → Parsed
  | [x0] => .request (.pointRead p tag x0)
  | _ => .badLength

/-- SLOT_READ: LEN 2 (Table 10-3). -/
def parseSlotRead (p : Port) (tag : Byte) : List Byte → Parsed
  | [x0, x1] => .request (.slotRead p tag x0 x1)
  | _ => .badLength

/-- BUS_CONFIG: LEN 2 (Table 10-3). -/
def parseBusConfig (p : Port) (tag : Byte) : List Byte → Parsed
  | [x0, x1] => .request (.busConfig p tag x0 x1)
  | _ => .badLength

/-- TARE: LEN 1 (Table 10-3). -/
def parseTare (p : Port) (tag : Byte) : List Byte → Parsed
  | [x0] => .request (.tare p tag x0)
  | _ => .badLength

/-- CAL_WRITE: LEN 7 (Table 10-3). -/
def parseCalWrite (p : Port) (tag : Byte) : List Byte → Parsed
  | [x0, x1, x2, x3, x4, x5, x6] => .request (.calWrite p tag x0 (word2 x1 x2) (word2 x3 x4) (word2 x5 x6))
  | _ => .badLength

/-- CAL_READ: LEN 1 (Table 10-3). -/
def parseCalRead (p : Port) (tag : Byte) : List Byte → Parsed
  | [x0] => .request (.calRead p tag x0)
  | _ => .badLength

/-- CLEAR_LOAD_ALARM: LEN 1 (Table 10-3). -/
def parseClearLoadAlarm (p : Port) (tag : Byte) : List Byte → Parsed
  | [x0] => .request (.clearLoadAlarm p tag x0)
  | _ => .badLength

/-- SET_LOAD_LIMITS: LEN 8 (Table 10-3). -/
def parseSetLoadLimits (p : Port) (tag : Byte) : List Byte → Parsed
  | [x0, x1, x2, x3, x4, x5, x6, x7] => .request (.setLoadLimits p tag x0 (word2 x1 x2) (word2 x3 x4) (word2 x5 x6) x7)
  | _ => .badLength

/-- SET_DUTY_LIMIT: LEN 3 (Table 10-3). -/
def parseSetDutyLimit (p : Port) (tag : Byte) : List Byte → Parsed
  | [x0, x1, x2] => .request (.setDutyLimit p tag x0 (word2 x1 x2))
  | _ => .badLength

/-- LOAD_READ: LEN 1 (Table 10-3). -/
def parseLoadRead (p : Port) (tag : Byte) : List Byte → Parsed
  | [x0] => .request (.loadRead p tag x0)
  | _ => .badLength

/-- SET_MEMBERS: LEN 1 to 25 (Table 10-3). -/
def parseSetMembers (p : Port) (tag : Byte) : List Byte → Parsed
  | x0 :: points => if points.length ≤ 24 then .request (.setMembers p tag x0 points) else .badLength
  | [] => .badLength

/-- CLAIM: LEN 1 (Table 10-3). -/
def parseClaim (p : Port) (tag : Byte) : List Byte → Parsed
  | [x0] => .request (.claim p tag x0)
  | _ => .badLength

/-- RELEASE: LEN 1 (Table 10-3). -/
def parseRelease (p : Port) (tag : Byte) : List Byte → Parsed
  | [x0] => .request (.release p tag x0)
  | _ => .badLength

/-- TAKEOVER: LEN 1 (Table 10-3). -/
def parseTakeover (p : Port) (tag : Byte) : List Byte → Parsed
  | [x0] => .request (.takeover p tag x0)
  | _ => .badLength

/-- SET_BANDS: LEN 11 (Table 10-3). -/
def parseSetBands (p : Port) (tag : Byte) : List Byte → Parsed
  | [x0, x1, x2, x3, x4, x5, x6, x7, x8, x9, x10] => .request (.setBands p tag x0 (word2 x1 x2) (word2 x3 x4) (word2 x5 x6) (word2 x7 x8) (word2 x9 x10))
  | _ => .badLength

/-- GROUP_READ: LEN 1 (Table 10-3). -/
def parseGroupRead (p : Port) (tag : Byte) : List Byte → Parsed
  | [x0] => .request (.groupRead p tag x0)
  | _ => .badLength

/-- MOVE_TO: LEN 4 (Table 10-3). -/
def parseMoveTo (p : Port) (tag : Byte) : List Byte → Parsed
  | [x0, x1, x2, x3] => .request (.moveTo p tag x0 (word3 x1 x2 x3))
  | _ => .badLength

/-- MOVE_BY: LEN 4 (Table 10-3). -/
def parseMoveBy (p : Port) (tag : Byte) : List Byte → Parsed
  | [x0, x1, x2, x3] => .request (.moveBy p tag x0 (word3 x1 x2 x3))
  | _ => .badLength

/-- JOG: LEN 2 (Table 10-3). -/
def parseJog (p : Port) (tag : Byte) : List Byte → Parsed
  | [x0, x1] => .request (.jog p tag x0 x1)
  | _ => .badLength

/-- STOP: LEN 1 (Table 10-3). -/
def parseStop (p : Port) (tag : Byte) : List Byte → Parsed
  | [x0] => .request (.stop p tag x0)
  | _ => .badLength

/-- ACK_FAULT: LEN 1 (Table 10-3). -/
def parseAckFault (p : Port) (tag : Byte) : List Byte → Parsed
  | [x0] => .request (.ackFault p tag x0)
  | _ => .badLength

/-- SET_STOP_LEAD: LEN 3 (Table 10-3). -/
def parseSetStopLead (p : Port) (tag : Byte) : List Byte → Parsed
  | [x0, x1, x2] => .request (.setStopLead p tag x0 (word2 x1 x2))
  | _ => .badLength

/-- MOTION_READ: LEN 1 or 2 (Table 10-3). -/
def parseMotionRead (p : Port) (tag : Byte) : List Byte → Parsed
  | [x0] => .request (.motionRead p tag x0 none)
  | [x0, y] => .request (.motionRead p tag x0 (some y))
  | _ => .badLength

/-- CLEAR_STOP_FLAGS: LEN 1 (Table 10-3). -/
def parseClearStopFlags (p : Port) (tag : Byte) : List Byte → Parsed
  | [x0] => .request (.clearStopFlags p tag x0)
  | _ => .badLength

/-- SET_STOP_CONFIG: LEN 3 (Table 10-3). -/
def parseSetStopConfig (p : Port) (tag : Byte) : List Byte → Parsed
  | [x0, x1, x2] => .request (.setStopConfig p tag x0 x1 x2)
  | _ => .badLength

/-- MAINS_CLOSE: LEN 0 (Table 10-3). -/
def parseMainsClose (p : Port) (tag : Byte) : List Byte → Parsed
  | [] => .request (.mainsClose p tag)
  | _ => .badLength

/-- MAINS_OPEN: LEN 0 (Table 10-3). -/
def parseMainsOpen (p : Port) (tag : Byte) : List Byte → Parsed
  | [] => .request (.mainsOpen p tag)
  | _ => .badLength

/-- GRID_HOLD_SET: LEN 0 (Table 10-3). -/
def parseGridHoldSet (p : Port) (tag : Byte) : List Byte → Parsed
  | [] => .request (.gridHoldSet p tag)
  | _ => .badLength

/-- GRID_HOLD_CLEAR: LEN 0 or 1 (Table 10-3). -/
def parseGridHoldClear (p : Port) (tag : Byte) : List Byte → Parsed
  | [] => .request (.gridHoldClear p tag none)
  | [y] => .request (.gridHoldClear p tag (some y))
  | _ => .badLength

/-- STOP_READ: LEN 1 (Table 10-3). -/
def parseStopRead (p : Port) (tag : Byte) : List Byte → Parsed
  | [x0] => .request (.stopRead p tag x0)
  | _ => .badLength

/-- STOP_STATUS: LEN 0 (Table 10-3). -/
def parseStopStatus (p : Port) (tag : Byte) : List Byte → Parsed
  | [] => .request (.stopStatus p tag)
  | _ => .badLength

/-- CUE_WRITE: LEN 7 (Table 10-3). -/
def parseCueWrite (p : Port) (tag : Byte) : List Byte → Parsed
  | [x0, x1, x2, x3, x4, x5, x6] => .request (.cueWrite p tag x0 x1 x2 (word3 x3 x4 x5) x6)
  | _ => .badLength

/-- CUE_CLEAR: LEN 0 (Table 10-3). -/
def parseCueClear (p : Port) (tag : Byte) : List Byte → Parsed
  | [] => .request (.cueClear p tag)
  | _ => .badLength

/-- CUE_OWN: LEN 0 (Table 10-3). -/
def parseCueOwn (p : Port) (tag : Byte) : List Byte → Parsed
  | [] => .request (.cueOwn p tag)
  | _ => .badLength

/-- CUE_DISOWN: LEN 0 (Table 10-3). -/
def parseCueDisown (p : Port) (tag : Byte) : List Byte → Parsed
  | [] => .request (.cueDisown p tag)
  | _ => .badLength

/-- CUE_CONFIG: LEN 2 (Table 10-3). -/
def parseCueConfig (p : Port) (tag : Byte) : List Byte → Parsed
  | [x0, x1] => .request (.cueConfig p tag x0 x1)
  | _ => .badLength

/-- CUE_ARM: LEN 0 or 1 (Table 10-3). -/
def parseCueArm (p : Port) (tag : Byte) : List Byte → Parsed
  | [] => .request (.cueArm p tag none)
  | [y] => .request (.cueArm p tag (some y))
  | _ => .badLength

/-- CUE_OFF: LEN 0 (Table 10-3). -/
def parseCueOff (p : Port) (tag : Byte) : List Byte → Parsed
  | [] => .request (.cueOff p tag)
  | _ => .badLength

/-- CUE_GO: LEN 0 (Table 10-3). -/
def parseCueGo (p : Port) (tag : Byte) : List Byte → Parsed
  | [] => .request (.cueGo p tag)
  | _ => .badLength

/-- CUE_SKIP: LEN 0 (Table 10-3). -/
def parseCueSkip (p : Port) (tag : Byte) : List Byte → Parsed
  | [] => .request (.cueSkip p tag)
  | _ => .badLength

/-- CUE_READ: LEN 2 (Table 10-3). -/
def parseCueRead (p : Port) (tag : Byte) : List Byte → Parsed
  | [x0, x1] => .request (.cueRead p tag x0 x1)
  | _ => .badLength

/-- ENABLE: LEN 1 (Table 10-3). -/
def parseEnable (p : Port) (tag : Byte) : List Byte → Parsed
  | [x0] => .request (.enable p tag x0)
  | _ => .badLength

/-- PORT_STATUS: LEN 0 (Table 10-3). -/
def parsePortStatus (p : Port) (tag : Byte) : List Byte → Parsed
  | [] => .request (.portStatus p tag)
  | _ => .badLength

/-- NOTICE_READ: LEN 0 (Table 10-3). -/
def parseNoticeRead (p : Port) (tag : Byte) : List Byte → Parsed
  | [] => .request (.noticeRead p tag)
  | _ => .badLength

/-- NOTICE_MASK: LEN 4 (Table 10-3). -/
def parseNoticeMask (p : Port) (tag : Byte) : List Byte → Parsed
  | [x0, x1, x2, x3] => .request (.noticeMask p tag (word4 x0 x1 x2 x3))
  | _ => .badLength

/-- WARN_CONFIG: LEN 2 (Table 10-3). -/
def parseWarnConfig (p : Port) (tag : Byte) : List Byte → Parsed
  | [x0, x1] => .request (.warnConfig p tag x0 x1)
  | _ => .badLength

/-- The request of a valid frame by its TYPE (Table 10-3). -/
def parseRequest (p : Port) (typ tag : Byte) (payload : List Byte) : Parsed :=
  match typ.toNat with
  | 0x01 => parsePortStatus p tag payload
  | 0x02 => parseEnable p tag payload
  | 0x03 => parseNoticeRead p tag payload
  | 0x04 => parseNoticeMask p tag payload
  | 0x05 => parseWarnConfig p tag payload
  | 0x10 => parsePatchPoint p tag payload
  | 0x11 => parseUnpatch p tag payload
  | 0x12 => parsePointRead p tag payload
  | 0x13 => parseSlotRead p tag payload
  | 0x14 => parseBusConfig p tag payload
  | 0x20 => parseTare p tag payload
  | 0x21 => parseCalWrite p tag payload
  | 0x22 => parseCalRead p tag payload
  | 0x23 => parseClearLoadAlarm p tag payload
  | 0x24 => parseSetLoadLimits p tag payload
  | 0x25 => parseSetDutyLimit p tag payload
  | 0x26 => parseLoadRead p tag payload
  | 0x30 => parseSetMembers p tag payload
  | 0x31 => parseClaim p tag payload
  | 0x32 => parseRelease p tag payload
  | 0x33 => parseTakeover p tag payload
  | 0x34 => parseSetBands p tag payload
  | 0x35 => parseGroupRead p tag payload
  | 0x40 => parseMoveTo p tag payload
  | 0x41 => parseMoveBy p tag payload
  | 0x42 => parseJog p tag payload
  | 0x43 => parseStop p tag payload
  | 0x44 => parseAckFault p tag payload
  | 0x45 => parseSetStopLead p tag payload
  | 0x46 => parseMotionRead p tag payload
  | 0x50 => parseClearStopFlags p tag payload
  | 0x51 => parseSetStopConfig p tag payload
  | 0x52 => parseMainsClose p tag payload
  | 0x53 => parseMainsOpen p tag payload
  | 0x54 => parseGridHoldSet p tag payload
  | 0x55 => parseGridHoldClear p tag payload
  | 0x56 => parseStopRead p tag payload
  | 0x57 => parseStopStatus p tag payload
  | 0x60 => parseCueWrite p tag payload
  | 0x61 => parseCueClear p tag payload
  | 0x62 => parseCueOwn p tag payload
  | 0x63 => parseCueDisown p tag payload
  | 0x64 => parseCueConfig p tag payload
  | 0x65 => parseCueArm p tag payload
  | 0x66 => parseCueOff p tag payload
  | 0x67 => parseCueGo p tag payload
  | 0x68 => parseCueSkip p tag payload
  | 0x69 => parseCueRead p tag payload
  | _ => .unknown

/-! ## Writing a request -/

/-- The TYPE and payload of a request (Table 10-3); none for an event. -/
def encodeRequest : Instr → Option (Byte × List Byte)
  | .resetnAssert => none
  | .resetnRelease _ _ => none
  | .frame => none
  | .upstreamField _ _ => none
  | .slotJoining _ => none
  | .slotLost _ => none
  | .serviceJobEnd _ => none
  | .serviceJobStart => none
  | .serviceTimeout => none
  | .runTimerExpiry _ => none
  | .runawayAllowanceExpiry _ => none
  | .estopAssertion => none
  | .estopRelease => none
  | .cueLineChange _ => none
  | .rearmTimerExpiry => none
  | .rxCharacter _ _ _ => none
  | .gapTimerExpiry _ => none
  | .frameReceived _ _ _ _ _ => none
  | .txFrameEnd _ => none
  | .linkTimerExpiry _ => none
  | .enableWindowExpiry _ => none
  | .patchPoint _ _ point identity softMin softMax trim => some (0x10, [point] ++ bytes4 identity ++ bytes3 softMin ++ bytes3 softMax ++ bytes2 trim)
  | .unpatch _ _ point => some (0x11, [point])
  | .pointRead _ _ point => some (0x12, [point])
  | .slotRead _ _ first count => some (0x13, [first] ++ [count])
  | .busConfig _ _ epoch mode => some (0x14, [epoch] ++ [mode])
  | .tare _ _ point => some (0x20, [point])
  | .calWrite _ _ point zero span wll => some (0x21, [point] ++ bytes2 zero ++ bytes2 span ++ bytes2 wll)
  | .calRead _ _ point => some (0x22, [point])
  | .clearLoadAlarm _ _ point => some (0x23, [point])
  | .setLoadLimits _ _ point high low hyst mode => some (0x24, [point] ++ bytes2 high ++ bytes2 low ++ bytes2 hyst ++ [mode])
  | .setDutyLimit _ _ point limit => some (0x25, [point] ++ bytes2 limit)
  | .loadRead _ _ point => some (0x26, [point])
  | .setMembers _ _ group points => some (0x30, [group] ++ points)
  | .claim _ _ group => some (0x31, [group])
  | .release _ _ group => some (0x32, [group])
  | .takeover _ _ group => some (0x33, [group])
  | .setBands _ _ group pause resume trip share tolerance => some (0x34, [group] ++ bytes2 pause ++ bytes2 resume ++ bytes2 trip ++ bytes2 share ++ bytes2 tolerance)
  | .groupRead _ _ group => some (0x35, [group])
  | .moveTo _ _ group height => some (0x40, [group] ++ bytes3 height)
  | .moveBy _ _ group distance => some (0x41, [group] ++ bytes3 distance)
  | .jog _ _ group direction => some (0x42, [group] ++ [direction])
  | .stop _ _ group => some (0x43, [group])
  | .ackFault _ _ group => some (0x44, [group])
  | .setStopLead _ _ point lead => some (0x45, [point] ++ bytes2 lead)
  | .motionRead _ _ group first => some (0x46, [group] ++ first.toList)
  | .clearStopFlags _ _ point => some (0x50, [point])
  | .setStopConfig _ _ point modes masks => some (0x51, [point] ++ [modes] ++ [masks])
  | .mainsClose _ _ => some (0x52, [])
  | .mainsOpen _ _ => some (0x53, [])
  | .gridHoldSet _ _ => some (0x54, [])
  | .gridHoldClear _ _ target => some (0x55, target.toList)
  | .stopRead _ _ point => some (0x56, [point])
  | .stopStatus _ _ => some (0x57, [])
  | .cueWrite _ _ index group action value follow => some (0x60, [index] ++ [group] ++ [action] ++ bytes3 value ++ [follow])
  | .cueClear _ _ => some (0x61, [])
  | .cueOwn _ _ => some (0x62, [])
  | .cueDisown _ _ => some (0x63, [])
  | .cueConfig _ _ source mode => some (0x64, [source] ++ [mode])
  | .cueArm _ _ start => some (0x65, start.toList)
  | .cueOff _ _ => some (0x66, [])
  | .cueGo _ _ => some (0x67, [])
  | .cueSkip _ _ => some (0x68, [])
  | .cueRead _ _ first count => some (0x69, [first] ++ [count])
  | .enable _ _ level => some (0x02, [level])
  | .portStatus _ _ => some (0x01, [])
  | .noticeRead _ _ => some (0x03, [])
  | .noticeMask _ _ kinds => some (0x04, bytes4 kinds)
  | .warnConfig _ _ enables polarity => some (0x05, [enables] ++ [polarity])

/-- The port a request arrives on; none for an event. -/
def requestPort : Instr → Option Port
  | .resetnAssert => none
  | .resetnRelease _ _ => none
  | .frame => none
  | .upstreamField _ _ => none
  | .slotJoining _ => none
  | .slotLost _ => none
  | .serviceJobEnd _ => none
  | .serviceJobStart => none
  | .serviceTimeout => none
  | .runTimerExpiry _ => none
  | .runawayAllowanceExpiry _ => none
  | .estopAssertion => none
  | .estopRelease => none
  | .cueLineChange _ => none
  | .rearmTimerExpiry => none
  | .rxCharacter _ _ _ => none
  | .gapTimerExpiry _ => none
  | .frameReceived _ _ _ _ _ => none
  | .txFrameEnd _ => none
  | .linkTimerExpiry _ => none
  | .enableWindowExpiry _ => none
  | .patchPoint p _ _ _ _ _ _ => some p
  | .unpatch p _ _ => some p
  | .pointRead p _ _ => some p
  | .slotRead p _ _ _ => some p
  | .busConfig p _ _ _ => some p
  | .tare p _ _ => some p
  | .calWrite p _ _ _ _ _ => some p
  | .calRead p _ _ => some p
  | .clearLoadAlarm p _ _ => some p
  | .setLoadLimits p _ _ _ _ _ _ => some p
  | .setDutyLimit p _ _ _ => some p
  | .loadRead p _ _ => some p
  | .setMembers p _ _ _ => some p
  | .claim p _ _ => some p
  | .release p _ _ => some p
  | .takeover p _ _ => some p
  | .setBands p _ _ _ _ _ _ _ => some p
  | .groupRead p _ _ => some p
  | .moveTo p _ _ _ => some p
  | .moveBy p _ _ _ => some p
  | .jog p _ _ _ => some p
  | .stop p _ _ => some p
  | .ackFault p _ _ => some p
  | .setStopLead p _ _ _ => some p
  | .motionRead p _ _ _ => some p
  | .clearStopFlags p _ _ => some p
  | .setStopConfig p _ _ _ _ => some p
  | .mainsClose p _ => some p
  | .mainsOpen p _ => some p
  | .gridHoldSet p _ => some p
  | .gridHoldClear p _ _ => some p
  | .stopRead p _ _ => some p
  | .stopStatus p _ => some p
  | .cueWrite p _ _ _ _ _ _ => some p
  | .cueClear p _ => some p
  | .cueOwn p _ => some p
  | .cueDisown p _ => some p
  | .cueConfig p _ _ _ => some p
  | .cueArm p _ _ => some p
  | .cueOff p _ => some p
  | .cueGo p _ => some p
  | .cueSkip p _ => some p
  | .cueRead p _ _ _ => some p
  | .enable p _ _ => some p
  | .portStatus p _ => some p
  | .noticeRead p _ => some p
  | .noticeMask p _ _ => some p
  | .warnConfig p _ _ _ => some p

/-- The TAG of a request; none for an event. -/
def requestTag : Instr → Option Byte
  | .resetnAssert => none
  | .resetnRelease _ _ => none
  | .frame => none
  | .upstreamField _ _ => none
  | .slotJoining _ => none
  | .slotLost _ => none
  | .serviceJobEnd _ => none
  | .serviceJobStart => none
  | .serviceTimeout => none
  | .runTimerExpiry _ => none
  | .runawayAllowanceExpiry _ => none
  | .estopAssertion => none
  | .estopRelease => none
  | .cueLineChange _ => none
  | .rearmTimerExpiry => none
  | .rxCharacter _ _ _ => none
  | .gapTimerExpiry _ => none
  | .frameReceived _ _ _ _ _ => none
  | .txFrameEnd _ => none
  | .linkTimerExpiry _ => none
  | .enableWindowExpiry _ => none
  | .patchPoint _ tag _ _ _ _ _ => some tag
  | .unpatch _ tag _ => some tag
  | .pointRead _ tag _ => some tag
  | .slotRead _ tag _ _ => some tag
  | .busConfig _ tag _ _ => some tag
  | .tare _ tag _ => some tag
  | .calWrite _ tag _ _ _ _ => some tag
  | .calRead _ tag _ => some tag
  | .clearLoadAlarm _ tag _ => some tag
  | .setLoadLimits _ tag _ _ _ _ _ => some tag
  | .setDutyLimit _ tag _ _ => some tag
  | .loadRead _ tag _ => some tag
  | .setMembers _ tag _ _ => some tag
  | .claim _ tag _ => some tag
  | .release _ tag _ => some tag
  | .takeover _ tag _ => some tag
  | .setBands _ tag _ _ _ _ _ _ => some tag
  | .groupRead _ tag _ => some tag
  | .moveTo _ tag _ _ => some tag
  | .moveBy _ tag _ _ => some tag
  | .jog _ tag _ _ => some tag
  | .stop _ tag _ => some tag
  | .ackFault _ tag _ => some tag
  | .setStopLead _ tag _ _ => some tag
  | .motionRead _ tag _ _ => some tag
  | .clearStopFlags _ tag _ => some tag
  | .setStopConfig _ tag _ _ _ => some tag
  | .mainsClose _ tag => some tag
  | .mainsOpen _ tag => some tag
  | .gridHoldSet _ tag => some tag
  | .gridHoldClear _ tag _ => some tag
  | .stopRead _ tag _ => some tag
  | .stopStatus _ tag => some tag
  | .cueWrite _ tag _ _ _ _ _ => some tag
  | .cueClear _ tag => some tag
  | .cueOwn _ tag => some tag
  | .cueDisown _ tag => some tag
  | .cueConfig _ tag _ _ => some tag
  | .cueArm _ tag _ => some tag
  | .cueOff _ tag => some tag
  | .cueGo _ tag => some tag
  | .cueSkip _ tag => some tag
  | .cueRead _ tag _ _ => some tag
  | .enable _ tag _ => some tag
  | .portStatus _ tag => some tag
  | .noticeRead _ tag => some tag
  | .noticeMask _ tag _ => some tag
  | .warnConfig _ tag _ _ => some tag

/-! ## The opcode table -/

/-- The command a word spells by the opcode table's bits: none, since no row of the table gives bits (log entry 28). -/
def decodeTableWord (_nbits _w : Nat) : Option Instr := none

end Sys2Proof
end

