-- ==== Sys2Proof/Machine/Check.lean ====
section
/-! DEFINITION. The two check computations: the CRC-16 of an operator frame (R176) and the slot check (R178). -/

namespace Sys2Proof.Machine

/-- One bit of the CRC-16: shift left, and subtract the polynomial when a one leaves. -/
def crc16Bit (reg : Word16) : Word16 :=
  if reg.msb then (reg <<< 1) ^^^ 0x1021 else reg <<< 1

/-- One byte of the CRC-16, most significant bit first. -/
def crc16Byte (reg : Word16) (b : Byte) : Word16 :=
  crc16Bit (crc16Bit (crc16Bit (crc16Bit (crc16Bit (crc16Bit (crc16Bit (crc16Bit
    (reg ^^^ word2 b 0))))))))

/-- R176: register from 0xFFFF, polynomial 0x1021, no reflection, no final inversion. -/
def crc16 (bytes : List Byte) : Word16 := bytes.foldl crc16Byte 0xFFFF

/-- One bit of the slot check. -/
def crc8Bit (reg : Byte) : Byte :=
  if reg.msb then (reg <<< 1) ^^^ 0x07 else reg <<< 1

/-- One byte of the slot check, most significant bit first. -/
def crc8Byte (reg : Byte) (b : Byte) : Byte :=
  crc8Bit (crc8Bit (crc8Bit (crc8Bit (crc8Bit (crc8Bit (crc8Bit (crc8Bit (reg ^^^ b))))))))

/-- R178: register from 0x00, polynomial 0x07, no reflection, no final inversion. -/
def slotCheck (bytes : List Byte) : Byte := bytes.foldl crc8Byte 0x00

/-- The CRC of a frame with this TYPE, TAG and payload: over LEN, TYPE, TAG and the payload (R176). -/
def frameCrc (typ tag : Byte) (payload : List Byte) : Word16 :=
  crc16 (BitVec.ofNat 8 payload.length :: typ :: tag :: payload)

end Sys2Proof.Machine
end

