-- ==== Sys2Proof/Config.lean ====
section
/-! DEFINITION. What the manual fixes for every ZGC48 (time limits, sizes), and the one choice it leaves open. -/

namespace Sys2Proof.Config

/-- The length of a Hoist Bus frame in ms (R21). -/
def framePeriod : Nat := 2

/-- A member's run timer in ms (R108). -/
def runTime : Nat := 400

/-- The runaway allowance in ms (R125). -/
def runawayAllowance : Nat := 1500

/-- The re-arm lock-out in ms (R143). -/
def rearmTime : Nat := 250

/-- The inter-character limit in ms (R154). -/
def gapTime : Nat := 20

/-- The link limit in ms (R156). -/
def linkTime : Nat := 1000

/-- The enable window in ms (R159). -/
def enableTime : Nat := 200

/-- The frames within which a service byte or END must be acknowledged or taken (R36, R37). -/
def serviceFrames : Nat := 64

/-- The consecutive valid fields that make a node present (R7). -/
def presenceFrames : Nat := 4

/-- The consecutive invalid fields that lose a slot (R8). -/
def missFrames : Nat := 8

/-- The frames a transmit queue holds (R164). -/
def txDepth : Nat := 6

/-- The records a notice set holds (R167). -/
def noticeDepth : Nat := 32

/-- The most records one NOTICE_READ returns (R170). -/
def noticePage : Nat := 14

/-- The codes a full load window holds (R50). -/
def windowSize : Nat := 8

/-- The longest payload of an operator frame (Table 10-2). -/
def maxPayload : Nat := 60

/-- The most points a group holds (R68). -/
def maxMembers : Nat := 24

/-- The most entries a cue list holds (R137). -/
def maxCues : Nat := 64

/-- The order in which one indication change is delivered: true when the Stop Unit takes it before the
Motion Engine. R28 lets either be first, so this is a FREE VALUE, one for each delivery, with no body: every
claim holds whichever order it names. DESIGN CHOICE of form (log entry 10); safe. -/
opaque stopUnitFirst : Nat → Bool

end Sys2Proof.Config
end

