-- ==== Sys2Proof/Machine/State.lean ====
section
/-! DEFINITION. The state of the ZGC48 as plain data, block by block, and its value after reset. -/

namespace Sys2Proof.Machine

/-- Why the block stops with a fault: never. Every request of the manual has a response and every event an effect
or none, so no command faults; the type has no constructor and that is the claim. Safe. -/
inductive Fault
deriving DecidableEq, Repr

/-- Why a command is refused by the model. -/
inductive Refusal where
  /-- Raised by an arm of Dispatch.lean whose command has no meaning yet. Safe: nothing is claimed of it. -/
  | notModelled (mnemonic : String)
deriving DecidableEq, Repr

/-! ## Small collections -/

/-- One value for each operator port. -/
structure PerPort (α : Type) where
  a : α
  b : α
  c : α
deriving DecidableEq, Repr

/-- The four kinds of node stop input, in the order of R119. -/
inductive StopKind where
  | upper | lower | slack | thermal
deriving DecidableEq, Repr

/-- One value for each kind of stop input. -/
structure PerKind (α : Type) where
  upper : α
  lower : α
  slack : α
  thermal : α
deriving DecidableEq, Repr

/-! ## Hoist Bus values (chapter 2) -/

/-- The movement a node's encoder sees (Table 2-2). -/
inductive Sense where
  | still | up | down
deriving DecidableEq, Repr

/-- The indication of an upstream field: four stop bits and a motion sense. -/
structure Indication where
  stops : PerKind Bool
  sense : Sense
deriving DecidableEq, Repr

/-- A command to a slot (Table 2-1). -/
inductive Command where
  | stop | up | down
deriving DecidableEq, Repr

/-- A service mark (R35); the fourth code is END from a sender and ABORT from a receiver. -/
inductive Mark where
  | idle | phase0 | phase1 | fourth
deriving DecidableEq, Repr

/-- A downstream slot field (R22); its slot check is computed from these contents. -/
structure DownField where
  command : Command
  epochMark : Bool
  octet : Byte
  mark : Mark
deriving DecidableEq, Repr

/-- The epoch length E (R21). -/
inductive Epoch where
  | e8 | e16
deriving DecidableEq, Repr

/-- The acceptance mode (R21). -/
inductive AcceptMode where
  | single | double
deriving DecidableEq, Repr

/-- The device-wide bus state (R21), and the fields last sent. -/
structure Bus where
  epoch : Epoch
  mode : AcceptMode
  framePos : Nat
  /-- The next frame is at position 0 (R33). -/
  restart : Bool
  downstream : Vector DownField 48
deriving DecidableEq, Repr

/-! ## Slot Table (R5) -/

/-- The states of Table 1-3. -/
inductive SlotState where
  | empty | joining | bound | foreign
deriving DecidableEq, Repr

/-- A slot record (R5). idleOwed counts the IDLE fields R38 requires before a new job places its first byte. -/
structure SlotRec where
  state : SlotState
  identity : Option Identity
  point : Option PointId
  presence : Nat
  miss : Nat
  candidate : Option Indication
  accepted : Option Indication
  lastSeq : Option (BitVec 4)
  idleOwed : Nat
deriving DecidableEq, Repr

/-! ## Point Table (Tables 1-1 and 1-2) -/

/-- A calibration record (Table 3-1). -/
structure Cal where
  zero : Nat
  span : Nat
  wll : Nat
deriving DecidableEq, Repr

/-- A load value: absent, a number of kilograms, or OVER (R53). -/
inductive Load where
  | absent
  | kg (v : Int)
  | over
deriving DecidableEq, Repr

/-- The alarm mode (Table 3-1). -/
inductive AlarmMode where
  | compare | latch | cross
deriving DecidableEq, Repr

/-- An overload or underload condition with its exit_seen mark. -/
structure Condition where
  active : Bool
  exitSeen : Bool
deriving DecidableEq, Repr

/-- The load part of a point record (R45). -/
structure LoadPart where
  cal : Option Cal
  calFault : Bool
  window : List Code
  discardNext : Bool
  value : Load
  high : Nat
  low : Nat
  hyst : Nat
  alarm : AlarmMode
  overload : Condition
  underload : Condition
  duty : Nat
  dutyLimit : Nat
  dutyHot : Bool
deriving DecidableEq, Repr

/-- A detection mode (Table 6-1). -/
inductive DetectMode where
  | level | edge
deriving DecidableEq, Repr

/-- The stop part of a point record (R118). A mask is true when enabled. -/
structure StopPart where
  flags : PerKind Bool
  modes : PerKind DetectMode
  masks : PerKind Bool
  runaway : Bool
deriving DecidableEq, Repr

/-- A point record: directory part (R2), load part, stop part, motion part (R88) and group part (R68). The point is
patched exactly when its identity is present. -/
structure PointRec where
  identity : Option Identity
  softMin : Int
  softMax : Int
  trim : Int
  boundSlot : Option SlotId
  lastSlot : Option SlotId
  raw : Option Word16
  load : LoadPart
  stop : StopPart
  stopLead : Nat
  lastRun : Option Nat
  group : Option GroupId
deriving DecidableEq, Repr

/-! ## Service Engine (R40) -/

/-- The kinds of service message (Table 2-5). -/
inductive ServiceKind where
  | ident | calRead | calWrite
deriving DecidableEq, Repr

/-- What asked for a job. -/
inductive JobOrigin where
  | join
  | calibration
  | port (p : Port)
deriving DecidableEq, Repr

/-- Where the active job's message exchange stands: placing bytes, placing END (how many of its two fields are sent),
receiving, or placing ABORT after an eighth byte (how many of its two fields are sent). -/
inductive JobPhase where
  | sending
  | ending (sent : Nat)
  | receiving
  | aborting (sent : Nat)
deriving DecidableEq, Repr

/-- The active service job (R40); prev is the octet and mark of the slot's preceding valid field (R35). discard says
that its point has left the slot while it ran, so that its result is discarded (R16, R44, R57; log entry 37). -/
structure Job where
  slot : SlotId
  kind : ServiceKind
  origin : JobOrigin
  point : Option PointId
  write : Option Cal
  phase : JobPhase
  index : Nat
  response : List Byte
  count : Nat
  prev : Option (Byte × Mark)
  discard : Bool
deriving DecidableEq, Repr

/-- The kind of a join list entry (01_points_and_the_hoist_directory.md 1.5). -/
inductive JoinKind where
  | full | calibration
deriving DecidableEq, Repr

/-- An entry of the join list. -/
structure JoinEntry where
  slot : SlotId
  kind : JoinKind
deriving DecidableEq, Repr

/-- An entry of the port service queue; write is present for CAL_WRITE and absent for CAL_READ. -/
structure PortEntry where
  port : Port
  point : PointId
  slot : SlotId
  write : Option Cal
deriving DecidableEq, Repr

/-- The Service Engine's three structures (R40). -/
structure Service where
  active : Option Job
  joinList : List JoinEntry
  portQueue : List PortEntry
deriving DecidableEq, Repr

/-! ## Group Table and Motion Engine (R68, R86) -/

/-- A direction of travel. -/
inductive Dir where
  | up | down
deriving DecidableEq, Repr

/-- The member states of Table 5-3. -/
inductive MemberState where
  | still | run | pause | coast | done | halt
deriving DecidableEq, Repr

/-- An entry of a member list with its member record (Table 5-2). The run timer holds the time of its expiry. -/
structure Member where
  point : PointId
  state : MemberState
  startPos : Option Int
  target : Option Int
  baseline : Option Int
  releasePos : Option Int
  releasedMoving : Bool
  runTimer : Option Nat
  settle : Nat
deriving DecidableEq, Repr

/-- The bands of Table 4-5. -/
structure Bands where
  pause : Nat
  resume : Nat
  trip : Nat
  share : Nat
  tolerance : Nat
deriving DecidableEq, Repr

/-- The group states of Table 5-1. -/
inductive GroupState where
  | idle | moving | stopping | fault
deriving DecidableEq, Repr

inductive MoveKind where
  | target | jog
deriving DecidableEq, Repr

inductive MoveOrigin where
  | console | cue
deriving DecidableEq, Repr

/-- The fault kinds of Table 5-10. -/
inductive FaultKind where
  | skew | share | noMotion | wrongDirection | overload | underload | stopInput | runaway | nodeLost | estop | mains
deriving DecidableEq, Repr

/-- A fault cause; the subject is absent for ESTOP and MAINS. -/
structure FaultCause where
  kind : FaultKind
  subject : Option PointId
deriving DecidableEq, Repr

/-- The stop causes of Table 5-9. -/
inductive StopCause where
  | stop | cue | enable | link | hold | limit
deriving DecidableEq, Repr

/-- A group record: the GRT's part (Table 4-1) and the MOE's (Table 5-1). -/
structure GroupRec where
  members : List Member
  holder : Option Port
  orphaned : Bool
  bands : Bands
  state : GroupState
  kind : MoveKind
  dir : Dir
  origin : MoveOrigin
  applied : Int
  fault : Option FaultCause
  stopCause : Option StopCause
deriving DecidableEq, Repr

/-! ## Stop Unit, device-wide part (chapter 6) -/

inductive Mains where
  | closed | tripped
deriving DecidableEq, Repr

/-- The last trip cause (R130). -/
inductive TripCause where
  | reset
  | estop
  | opened (p : Port)
  | runaway (p : PointId)
deriving DecidableEq, Repr

/-- The ESTOP view (true is ACTIVE), the mains state and trip cause, and the grid-hold set. -/
structure StopUnit where
  estop : Bool
  mains : Mains
  tripCause : TripCause
  hold : PerPort Bool
deriving DecidableEq, Repr

/-! ## Results (Tables 8-2 and 8-3) -/

/-- The reasons of Table 8-3, in its order. -/
inductive Reason where
  | empty | unbound | noPosition | noLoad | noCalibration | window
  | estop | mains | hold | noEnable | overload | underload | stopInput | duty | runaway | pointInUse | goSource
deriving DecidableEq, Repr

/-- A result other than OK, with the data Table 8-2 gives it. pointInUse is BLOCKED(POINT_IN_USE, p) with the group
that holds p (R71). -/
inductive Reject where
  | unknownType
  | badLength
  | badArgument
  | notHolder
  | heldElsewhere (p : Port)
  | busy
  | notReady (reason : Reason) (subject : Option PointId)
  | blocked (reason : Reason) (subject : Option PointId)
  | pointInUse (p : PointId) (g : GroupId)
  | full
deriving DecidableEq, Repr

/-! ## Cue Engine (R137) -/

inductive CueAction where
  | moveTo | moveBy | stop
deriving DecidableEq, Repr

/-- A cue entry (Table 7-1). -/
structure CueEntry where
  group : GroupId
  action : CueAction
  value : Int
  follow : Bool
deriving DecidableEq, Repr

/-- The engine states of Table 7-3. -/
inductive CueState where
  | off | ready | running | stalled | done
deriving DecidableEq, Repr

inductive GoSource where
  | line | console | both
deriving DecidableEq, Repr

inductive LineMode where
  | rise | fall | high | low
deriving DecidableEq, Repr

/-- Why the engine last stalled (Table 7-2). -/
inductive Stall where
  | refused (r : Reject)
  | stopped
  | faulted
deriving DecidableEq, Repr

/-- The Cue Engine's fields (Table 7-2); the count is the list's length, and the re-arm timer holds the time of its
expiry. -/
structure Cue where
  list : List CueEntry
  pointer : Nat
  state : CueState
  owner : Option Port
  source : GoSource
  mode : LineMode
  level : Level
  rearm : Option Nat
  firedGroup : Option GroupId
  firedIndex : Option Nat
  stall : Option Stall
deriving DecidableEq, Repr

/-! ## Operator ports (R153) -/

/-- The receiver state with the frame in assembly: the bytes received since SYNC, SYNC among them. -/
inductive Receiver where
  | hunting
  | inFrame (bytes : List Byte)
deriving DecidableEq, Repr

inductive Link where
  | down | up
deriving DecidableEq, Repr

/-- A frame of a transmit queue; SYNC, LEN and the CRC are computed from it (Table 10-2). -/
structure TxFrame where
  typ : Byte
  tag : Byte
  payload : List Byte
deriving DecidableEq, Repr

/-- The fields of Table 8-1; the timers hold the time of their expiry. -/
structure PortRec where
  receiver : Receiver
  gapTimer : Option Nat
  link : Link
  linkTimer : Option Nat
  enable : Bool
  enableWindow : Option Nat
  tx : List TxFrame
  errors : Nat
  overruns : Nat
deriving DecidableEq, Repr

/-! ## Notices and WARN (chapter 9) -/

/-- The notice kinds of Table 9-2, in its order. -/
inductive NoticeKind where
  | nodeJoined | nodeForeign | nodeDuplicate | nodeLost | serviceDone | serviceFailed
  | overload | overloadCleared | underload | underloadCleared | dutyHot | dutyCool
  | claimChanged | orphaned | groupDone | groupStopped | groupFault | targetClamped | limitReached | arrivalError
  | stopInput | runaway | estop | estopClear | mainsTripped | gridHold | gridHoldClear
  | cueFired | cueStall | cueEarly | cueEnd
deriving DecidableEq, Repr

/-- A notice's subject, with its type (Table 10-5). -/
inductive Subject where
  | none
  | point (p : PointId)
  | slot (s : SlotId)
  | group (g : GroupId)
  | cue (k : Nat)
  | port (p : Port)
deriving DecidableEq, Repr

/-- A notice record (Table 9-1). -/
structure NoticeRec where
  kind : NoticeKind
  subject : Subject
  count : Nat
deriving DecidableEq, Repr

/-- A port's notice set, lost marker and suppress set (R167). Bit k - 1 of the suppress set stands for kind k.
prompt says that the set went from empty to non-empty in the event now taken (R165). -/
structure NoticeSet where
  records : List NoticeRec
  lost : Bool
  suppress : BitVec 32
  prompt : Bool
deriving DecidableEq, Repr

inductive Polarity where
  | activeHigh | activeLow
deriving DecidableEq, Repr

/-- The WARN settings (R173). -/
structure Warn where
  overload : Bool
  fault : Bool
  hold : Bool
  estop : Bool
  runaway : Bool
  polarity : Polarity
deriving DecidableEq, Repr

/-! ## The whole block -/

/-- The state of the block. -/
structure State where
  /-- The commands that wait, first in first out. -/
  pending : List Instr
  /-- RESETn is asserted (R1). -/
  inReset : Bool
  /-- The time of the current frame in ms. -/
  now : Nat
  /-- How many free choices have been drawn (Config.stopUnitFirst). -/
  choice : Nat
  points : Vector PointRec 48
  slots : Vector SlotRec 48
  bus : Bus
  service : Service
  groups : Vector GroupRec 16
  stopUnit : StopUnit
  cue : Cue
  ports : PerPort PortRec
  notices : PerPort NoticeSet
  warn : Warn
deriving DecidableEq, Repr

/-! ## Reset values -/

/-- R46. -/
def LoadPart.reset : LoadPart :=
  { cal := none, calFault := false, window := [], discardNext := true, value := .absent,
    high := 0, low := 0, hyst := 20, alarm := .compare,
    overload := ⟨false, false⟩, underload := ⟨false, false⟩,
    duty := 0, dutyLimit := 33750, dutyHot := false }

/-- R118. -/
def StopPart.reset : StopPart :=
  { flags := ⟨false, false, false, false⟩, modes := ⟨.level, .level, .level, .level⟩,
    masks := ⟨true, true, true, true⟩, runaway := false }

/-- R3, R69, R88. -/
def PointRec.reset : PointRec :=
  { identity := none, softMin := -1000, softMax := 66535, trim := 0, boundSlot := none, lastSlot := none,
    raw := none, load := LoadPart.reset, stop := StopPart.reset, stopLead := 15, lastRun := none, group := none }

/-- R5. -/
def SlotRec.reset : SlotRec :=
  { state := .empty, identity := none, point := none, presence := 0, miss := 0, candidate := none,
    accepted := none, lastSeq := none, idleOwed := 0 }

/-- R21; the downstream fields are those of the first frame, which begins an epoch (R22, R31). -/
def Bus.reset : Bus :=
  { epoch := .e16, mode := .double, framePos := 0, restart := false,
    downstream := Vector.replicate 48 ⟨.stop, true, 0xFF, .idle⟩ }

/-- R69, R86. -/
def GroupRec.reset : GroupRec :=
  { members := [], holder := none, orphaned := false, bands := ⟨10, 4, 60, 15, 20⟩, state := .idle,
    kind := .target, dir := .up, origin := .console, applied := 0, fault := none, stopCause := none }

/-- R137, with the level of the CUE line. -/
def Cue.reset (level : Level) : Cue :=
  { list := [], pointer := 0, state := .off, owner := none, source := .console, mode := .rise, level := level,
    rearm := none, firedGroup := none, firedIndex := none, stall := none }

/-- R153. -/
def PortRec.reset : PortRec :=
  { receiver := .hunting, gapTimer := none, link := .down, linkTimer := none, enable := false,
    enableWindow := none, tx := [], errors := 0, overruns := 0 }

/-- R167. -/
def NoticeSet.reset : NoticeSet :=
  { records := [], lost := false, suppress := 0, prompt := false }

/-- R173. -/
def Warn.reset : Warn :=
  { overload := true, fault := true, hold := true, estop := true, runaway := true, polarity := .activeHigh }

/-- The machine right after reset: RESETn has been released with the ESTOP line high and the CUE line low, which is
a DESIGN CHOICE (log entry 4; the manual lets the lines have either level), and the first frame has begun (R21).
Every other field has the value its chapter states. -/
def State.reset : State :=
  { pending := [], inReset := false, now := 0, choice := 0,
    points := Vector.replicate 48 PointRec.reset,
    slots := Vector.replicate 48 SlotRec.reset,
    bus := Bus.reset,
    service := { active := none, joinList := [], portQueue := [] },
    groups := Vector.replicate 16 GroupRec.reset,
    stopUnit := { estop := false, mains := .tripped, tripCause := .reset, hold := ⟨false, false, false⟩ },
    cue := Cue.reset .low,
    ports := ⟨PortRec.reset, PortRec.reset, PortRec.reset⟩,
    notices := ⟨NoticeSet.reset, NoticeSet.reset, NoticeSet.reset⟩,
    warn := Warn.reset }

end Sys2Proof.Machine
end

