-- ==== Sys2Proof/Machine/Ops.lean ====
section
/-! DEFINITION. The named operations every block's rules are written with: reading and updating the tables, timers,
positions, recording notices, and queueing frames. -/

namespace Sys2Proof.Machine

/-! ## Small collections -/

def PerPort.get {α : Type} (v : PerPort α) : Port → α
  | .a => v.a
  | .b => v.b
  | .c => v.c

def PerPort.set {α : Type} (v : PerPort α) (p : Port) (x : α) : PerPort α :=
  match p with
  | .a => { v with a := x }
  | .b => { v with b := x }
  | .c => { v with c := x }

def PerKind.get {α : Type} (v : PerKind α) : StopKind → α
  | .upper => v.upper
  | .lower => v.lower
  | .slack => v.slack
  | .thermal => v.thermal

def PerKind.set {α : Type} (v : PerKind α) (k : StopKind) (x : α) : PerKind α :=
  match k with
  | .upper => { v with upper := x }
  | .lower => { v with lower := x }
  | .slack => { v with slack := x }
  | .thermal => { v with thermal := x }

def allPorts : List Port := [.a, .b, .c]

/-- The kinds in the order R119 takes them. -/
def allKinds : List StopKind := [.upper, .lower, .slack, .thermal]

/-- Points 1 to 48 in order. -/
def allPoints : List PointId := List.finRange 48

/-- Slots 0 to 47 in order. -/
def allSlots : List SlotId := List.finRange 48

/-- Groups 1 to 16 in order. -/
def allGroups : List GroupId := List.finRange 16

/-! ## The tables -/

def State.point (s : State) (p : PointId) : PointRec := s.points[p]

def State.setPoint (s : State) (p : PointId) (r : PointRec) : State := { s with points := s.points.set p r }

def State.slot (s : State) (n : SlotId) : SlotRec := s.slots[n]

def State.setSlot (s : State) (n : SlotId) (r : SlotRec) : State := { s with slots := s.slots.set n r }

def State.group (s : State) (g : GroupId) : GroupRec := s.groups[g]

def State.setGroup (s : State) (g : GroupId) (r : GroupRec) : State := { s with groups := s.groups.set g r }

def State.port (s : State) (p : Port) : PortRec := s.ports.get p

def State.setPort (s : State) (p : Port) (r : PortRec) : State := { s with ports := s.ports.set p r }

def State.notice (s : State) (p : Port) : NoticeSet := s.notices.get p

def State.setNotice (s : State) (p : Port) (n : NoticeSet) : State := { s with notices := s.notices.set p n }

def State.setBus (s : State) (b : Bus) : State := { s with bus := b }

def State.setService (s : State) (e : Service) : State := { s with service := e }

def State.setStopUnit (s : State) (u : StopUnit) : State := { s with stopUnit := u }

def State.setCue (s : State) (c : Cue) : State := { s with cue := c }

def State.setWarn (s : State) (w : Warn) : State := { s with warn := w }

/-- Replaces a point's load part. -/
def State.setLoad (s : State) (p : PointId) (l : LoadPart) : State :=
  s.setPoint p { s.point p with load := l }

/-- Replaces a point's stop part. -/
def State.setStop (s : State) (p : PointId) (t : StopPart) : State :=
  s.setPoint p { s.point p with stop := t }

/-! ## Time -/

/-- A timer started now for t ms: the time of its expiry (log entry 2). -/
def State.timer (s : State) (t : Nat) : Option Nat := some (s.now + t)

/-- A timer is due when it runs and its time is reached. -/
def State.due (s : State) : Option Nat → Bool
  | some d => decide (d ≤ s.now)
  | none => false

/-- The runaway allowance of a point has run out: the mark is none, or 1500 ms have passed since it (R125). -/
def State.allowanceOut (s : State) (p : PointId) : Bool :=
  match (s.point p).lastRun with
  | none => true
  | some t => decide (t + Config.runawayAllowance ≤ s.now)

/-! ## Positions, indications, groups of points -/

/-- pos: the raw position plus the trim as it stands; absent while the raw position is (R4). -/
def State.pos (s : State) (p : PointId) : Option Int :=
  (s.point p).raw.map fun r => (r.toNat : Int) + (s.point p).trim

/-- The accepted indication of a point: that of its bound slot. -/
def State.accepted (s : State) (p : PointId) : Option Indication :=
  match (s.point p).boundSlot with
  | some n => (s.slot n).accepted
  | none => none

/-- A point's accepted motion sense; absent when it is unbound or nothing has been accepted. -/
def State.sense (s : State) (p : PointId) : Option Sense := (s.accepted p).map Indication.sense

/-- The group is MOVING or STOPPING. -/
def GroupState.active : GroupState → Bool
  | .moving => true
  | .stopping => true
  | .idle => false
  | .fault => false

/-- The point is a member of a group that is MOVING or STOPPING, found through its group field (R70). -/
def State.pointActive (s : State) (p : PointId) : Bool :=
  match (s.point p).group with
  | some g => (s.group g).state.active
  | none => false

/-- The travel direction as a sign. -/
def Dir.sign : Dir → Int
  | .up => 1
  | .down => -1

def Dir.sense : Dir → Sense
  | .up => .up
  | .down => .down

def Dir.command : Dir → Command
  | .up => .up
  | .down => .down

/-- A group's member record of a point. -/
def GroupRec.member (r : GroupRec) (p : PointId) : Option Member :=
  r.members.find? fun m => m.point == p

/-- Updates the member record of one point. -/
def GroupRec.updMember (r : GroupRec) (p : PointId) (f : Member → Member) : GroupRec :=
  { r with members := r.members.map fun m => if m.point = p then f m else m }

/-- Updates every member record. -/
def GroupRec.updAll (r : GroupRec) (f : Member → Member) : GroupRec :=
  { r with members := r.members.map f }

/-! ## Requested command (R87) -/

/-- UP or DOWN for a member in RUN of a MOVING group, STOP otherwise. -/
def State.requested (s : State) (p : PointId) : Command :=
  match (s.point p).group with
  | none => .stop
  | some g =>
    if (s.group g).state = .moving then
      match (s.group g).member p with
      | some m => if m.state = .run then (s.group g).dir.command else .stop
      | none => .stop
    else .stop

/-! ## Notices (R168, R169) -/

/-- The code of a notice kind: its place in Table 9-2, from 1 (R175). -/
def NoticeKind.code : NoticeKind → Nat
  | .nodeJoined => 1 | .nodeForeign => 2 | .nodeDuplicate => 3 | .nodeLost => 4
  | .serviceDone => 5 | .serviceFailed => 6
  | .overload => 7 | .overloadCleared => 8 | .underload => 9 | .underloadCleared => 10
  | .dutyHot => 11 | .dutyCool => 12
  | .claimChanged => 13 | .orphaned => 14
  | .groupDone => 15 | .groupStopped => 16 | .groupFault => 17 | .targetClamped => 18
  | .limitReached => 19 | .arrivalError => 20
  | .stopInput => 21 | .runaway => 22 | .estop => 23 | .estopClear => 24 | .mainsTripped => 25
  | .gridHold => 26 | .gridHoldClear => 27
  | .cueFired => 28 | .cueStall => 29 | .cueEarly => 30 | .cueEnd => 31

/-- The kind is in the suppress set. -/
def NoticeSet.suppresses (n : NoticeSet) (k : NoticeKind) : Bool := n.suppress.getLsbD (k.code - 1)

/-- A record of the same kind and subject stands in the set. -/
def NoticeSet.stands (n : NoticeSet) (k : NoticeKind) (subj : Subject) : Bool :=
  n.records.any fun r => r.kind == k && r.subject == subj

/-- The four cases of R168, in its order. -/
def NoticeSet.record (n : NoticeSet) (k : NoticeKind) (subj : Subject) : NoticeSet :=
  if n.suppresses k then n
  else if n.stands k subj then
    { n with records := n.records.map fun r =>
        if r.kind = k ∧ r.subject = subj then { r with count := min (r.count + 1) 255 } else r }
  else if n.records.length < Config.noticeDepth then
    { n with records := n.records ++ [⟨k, subj, 1⟩], prompt := n.prompt || n.records.isEmpty }
  else { n with lost := true }

/-- Records a notice for one port. -/
def State.notify (s : State) (p : Port) (k : NoticeKind) (subj : Subject) : State :=
  s.setNotice p ((s.notice p).record k subj)

/-- Records a notice for all ports (R169). -/
def State.notifyAll (s : State) (k : NoticeKind) (subj : Subject) : State :=
  { s with notices := ⟨s.notices.a.record k subj, s.notices.b.record k subj, s.notices.c.record k subj⟩ }

/-- Records a notice for a port that may be absent: nowhere when it is (R169). -/
def State.notifyOpt (s : State) (p : Option Port) (k : NoticeKind) (subj : Subject) : State :=
  match p with
  | some q => s.notify q k subj
  | none => s

/-- Records a notice for the holder of a group, as it stands (R169). -/
def State.notifyHolder (s : State) (g : GroupId) (k : NoticeKind) (subj : Subject) : State :=
  s.notifyOpt (s.group g).holder k subj

/-- Records a notice for the cue owner, as it stands (R169). -/
def State.notifyOwner (s : State) (k : NoticeKind) (subj : Subject) : State :=
  s.notifyOpt s.cue.owner k subj

/-! ## Transmit queues (R164, R165) -/

/-- Adds a frame at the end of a transmit queue. -/
def State.queueTx (s : State) (p : Port) (f : TxFrame) : State :=
  s.setPort p { s.port p with tx := (s.port p).tx ++ [f] }

/-- ATTENTION: TYPE 0x7F, TAG 0, no payload (R165). -/
def attention : TxFrame := ⟨0x7F, 0, []⟩

/-- Queues ATTENTION if the link is UP and the queue has room; drops it otherwise (R165). -/
def State.queueAttention (s : State) (p : Port) : State :=
  if (s.port p).link = .up ∧ (s.port p).tx.length < Config.txDepth then s.queueTx p attention else s

/-- Acts on the prompt of one port, if one was raised in this event (R165). -/
def State.flushPrompt (s : State) (p : Port) : State :=
  if (s.notice p).prompt then
    (s.setNotice p { s.notice p with prompt := false }).queueAttention p
  else s

/-- Acts on the prompts raised in this event. -/
def State.flushPrompts (s : State) : State := ((s.flushPrompt .a).flushPrompt .b).flushPrompt .c

/-- An event that the block acts on: nothing while RESETn is asserted (R1), and the prompts it raised at its end. -/
def State.event (s : State) (f : State → State) : State :=
  if s.inReset then s else (f s).flushPrompts

/-- The bytes a queued frame sends: SYNC, LEN, TYPE, TAG, payload and CRC (Table 10-2). -/
def TxFrame.bytes (f : TxFrame) : List Byte :=
  0xA5 :: BitVec.ofNat 8 f.payload.length :: f.typ :: f.tag :: f.payload ++ bytes2 (frameCrc f.typ f.tag f.payload)

/-- Adds 1 to a counter that saturates at 65535 (R153). -/
def satSucc (n : Nat) : Nat := min (n + 1) 65535

/-- Puts a value between two bounds. -/
def clamp (lo hi x : Int) : Int := max lo (min hi x)

end Sys2Proof.Machine
end

