-- ==== Sys2Proof/Machine/Flags.lean ====
section
/-! DEFINITION. The conditions and flags the rules compute: stop-input vetoes, the effective command, load conversion and
load conditions, duty, and the WARN and MAINS lines. -/

namespace Sys2Proof.Machine

/-! ## Stop inputs (Tables 2-4, 6-2 and 6-3) -/

/-- Table 2-4: the directions a set, enabled flag blocks. -/
def StopKind.blocks : StopKind → Dir → Bool
  | .upper, .up => true
  | .upper, .down => false
  | .lower, .up => false
  | .lower, .down => true
  | .slack, .up => false
  | .slack, .down => true
  | .thermal, _ => true

/-- Table 6-3: the directions of travel in which a newly set, enabled flag faults the group. -/
def StopKind.faults : StopKind → Dir → Bool
  | .upper, .up => true
  | .upper, .down => false
  | .lower, .up => false
  | .lower, .down => true
  | .slack, _ => true
  | .thermal, _ => true

/-- Some set flag whose mask is enabled blocks the direction (R121). -/
def StopPart.blocks (t : StopPart) (d : Dir) : Bool :=
  allKinds.any fun k => t.flags.get k && t.masks.get k && k.blocks d

/-- Table 6-2: flag k after an indication change, from its mode, its bit before and now, and its value before. -/
def flagAfter (mode : DetectMode) (before now flag : Bool) : Bool :=
  match mode with
  | .level => flag || now
  | .edge => flag || (now && !before)

/-! ## Effective command (R31) -/

/-- The requested command when the slot is BOUND, the mains CLOSED and no enabled flag blocks it; STOP otherwise.
It is computed from its inputs, so it is recomposed at each change of one (R32; log entry 29). -/
def State.effective (s : State) (n : SlotId) : Command :=
  match (s.slot n).state, (s.slot n).point with
  | .bound, some p =>
    if s.stopUnit.mains = .closed then
      match s.requested p with
      | .stop => .stop
      | .up => if (s.point p).stop.blocks .up then .stop else .up
      | .down => if (s.point p).stop.blocks .down then .stop else .down
    else .stop
  | _, _ => .stop

/-! ## Load conversion (R52, R53) -/

/-- n / 32768 to the nearest whole number, halves away from zero (R52). -/
def roundLoad (n : Int) : Int :=
  if 0 ≤ n then (n + 16384) / 32768 else -((-n + 16384) / 32768)

/-- The sum of a window's codes. -/
def codeSum (w : List Code) : Nat := (w.map BitVec.toNat).sum

/-- The load of a full window under a calibration: OVER when a code is 4095 (R53), else the conversion of R52. -/
def convertLoad (w : List Code) (c : Cal) : Load :=
  if w.any fun r => r == 4095 then .over
  else .kg (roundLoad (((codeSum w : Int) - 8 * (c.zero : Int)) * (c.span : Int)))

/-- R50 step 3: the load value a load part's window and calibration give. -/
def LoadPart.computed (l : LoadPart) : Load :=
  if l.window.length = Config.windowSize then
    match l.cal with
    | some c => convertLoad l.window c
    | none => .absent
  else .absent

/-- R51: the window is emptied, discard_next is set and the load value becomes absent. -/
def LoadPart.restart (l : LoadPart) : LoadPart :=
  { l with window := [], discardNext := true, value := .absent }

/-- R50 steps 2 and 3: a code is dropped or joins the window, and the load value follows. -/
def LoadPart.take (l : LoadPart) (r : Code) : LoadPart :=
  let l1 : LoadPart :=
    if l.discardNext then { l with discardNext := false }
    else { l with window := (if l.window.length < Config.windowSize then l.window else l.window.tail) ++ [r] }
  { l1 with value := l1.computed }

/-- R47: the limits brought into line with a working load limit. -/
def LoadPart.align (l : LoadPart) (wll : Nat) : LoadPart :=
  let high := if l.high = 0 then wll else min l.high wll
  { l with high := high, low := min l.low (high - 50) }

/-- R47, R48: a calibration copy is installed, the limits follow and the window restarts. -/
def LoadPart.install (l : LoadPart) (c : Cal) : LoadPart :=
  { (l.align c.wll).restart with cal := some c, calFault := false }

/-- The three values lie in their ranges (R47). -/
def Cal.inRange (c : Cal) : Bool :=
  decide (c.zero ≤ 4095) && decide (100 ≤ c.span) && decide (c.span ≤ 20000) &&
    decide (50 ≤ c.wll) && decide (c.wll ≤ 20000)

/-- R47: a calibration read is installed when its values lie in range, and otherwise drops the copy with cal_fault. -/
def LoadPart.installRead (l : LoadPart) (c : Cal) : LoadPart :=
  if c.inRange then l.install c else { l.restart with cal := none, calFault := true }

/-- R49: the calibration copy is dropped. -/
def LoadPart.dropCal (l : LoadPart) : LoadPart :=
  { l.restart with cal := none, calFault := false }

/-! ## Load conditions (R59, R60) -/

/-- What an evaluation of a condition did to it. -/
inductive CondEvent where
  | none | entered | cleared
deriving DecidableEq, Repr

/-- Table 3-3 for either condition: enter says the load is beyond the limit, leave that it meets the exit level. -/
def Condition.evaluate (c : Condition) (enter leave : Bool) (mode : AlarmMode) : Condition × CondEvent :=
  if c.active then
    if enter then (⟨true, false⟩, .none)
    else if leave then
      match mode with
      | .compare => (⟨false, false⟩, .none)
      | .cross => (⟨false, false⟩, .cleared)
      | .latch => (⟨true, true⟩, .none)
    else (c, .none)
  else if enter then (⟨true, false⟩, .entered)
  else (⟨false, false⟩, .none)

/-- The load is above high_kg; OVER counts as above (R53, R59). -/
def LoadPart.aboveHigh (l : LoadPart) : Bool :=
  match l.value with
  | .kg v => decide ((l.high : Int) < v)
  | .over => true
  | .absent => false

/-- The load is at or below the overload exit level (R59). -/
def LoadPart.atHighExit (l : LoadPart) : Bool :=
  match l.value with
  | .kg v => decide (v ≤ (l.high : Int) - (l.hyst : Int))
  | .over => false
  | .absent => false

/-- The load is below low_kg; an INACTIVE condition is not entered while low_kg is 0 (R60). -/
def LoadPart.belowLow (l : LoadPart) : Bool :=
  match l.value with
  | .kg v => decide (v < (l.low : Int)) && (l.underload.active || decide (l.low ≠ 0))
  | .over => false
  | .absent => false

/-- The load is at or above the underload exit level; OVER counts as meeting it (R60). -/
def LoadPart.atLowExit (l : LoadPart) : Bool :=
  match l.value with
  | .kg v => decide ((l.low : Int) + (l.hyst : Int) ≤ v)
  | .over => true
  | .absent => false

/-! ## Duty (R64, R65) -/

/-- R64: the credit after an arrival, from the slot's effective command. -/
def dutyAfter (credit : Nat) (c : Command) : Nat :=
  match c with
  | .stop => credit - 1
  | .up => min (credit + 3) 65535
  | .down => min (credit + 3) 65535

/-- R65: duty_hot after an evaluation. -/
def LoadPart.hotAfter (l : LoadPart) : Bool :=
  if l.dutyHot then decide (l.dutyLimit / 2 < l.duty) else decide (l.dutyLimit ≤ l.duty)

/-! ## Output lines -/

/-- A set of ports has a member. -/
def PerPort.some (v : PerPort Bool) : Bool := v.a || v.b || v.c

/-- Table 9-3, cause OVERLOAD. -/
def State.overloadHolds (s : State) : Bool := s.points.toList.any fun r => r.load.overload.active

/-- Table 9-3, cause FAULT. -/
def State.faultHolds (s : State) : Bool := s.groups.toList.any fun r => r.state == .fault

/-- Table 9-3, cause HOLD. -/
def State.holdHolds (s : State) : Bool := s.stopUnit.hold.some

/-- Table 9-3, cause RUNAWAY. -/
def State.runawayHolds (s : State) : Bool := s.points.toList.any fun r => r.stop.runaway

/-- WARN is active while at least one enabled cause holds (R173). -/
def State.warnActive (s : State) : Bool :=
  (s.warn.overload && s.overloadHolds) || (s.warn.fault && s.faultHolds) || (s.warn.hold && s.holdHolds) ||
    (s.warn.estop && s.stopUnit.estop) || (s.warn.runaway && s.runawayHolds)

/-- The WARN line: low while RESETn is asserted, else driven by the polarity (R1, R173). -/
def State.warnLine (s : State) : Level :=
  if s.inReset then .low
  else match s.warn.polarity with
    | .activeHigh => if s.warnActive then .high else .low
    | .activeLow => if s.warnActive then .low else .high

/-- The MAINS line energises the contactor: not while RESETn is asserted, else while the mains is CLOSED (R1, R130). -/
def State.mainsLine (s : State) : Bool := !s.inReset && s.stopUnit.mains == .closed

/-- The characters a port's transmit line is sending: those of the head frame, none while it idles (R1, R164). -/
def State.txLine (s : State) (p : Port) : List Byte :=
  if s.inReset then [] else
    match (s.port p).tx with
    | f :: _ => f.bytes
    | [] => []

end Sys2Proof.Machine
end

