-- ==== Sys2Proof/Machine/Motion.lean ====
section
/-! DEFINITION. The Motion Engine and the firing half of the Cue Engine: faults, stops, STARTs, cue fires and completion
reports, position reports, arrivals, share checks and motion checks (chapters 5 and 7). -/

namespace Sys2Proof.Machine

/-! ## Reports of a failed move to the Cue Engine (R148) -/

/-- The subject of a notice about a cue index. -/
def cueSubject : Option Nat → Subject
  | some k => .cue k
  | none => .none

/-- A STOPPED or FAULTED report: acted on only while RUNNING and for the fired group. -/
def State.cueFailed (s : State) (g : GroupId) (why : Stall) : State :=
  if s.cue.state = .running ∧ s.cue.firedGroup = some g then
    (s.setCue { s.cue with firedGroup := none, state := .stalled, stall := some why }).notifyOwner
      .cueStall (cueSubject s.cue.firedIndex)
  else s

/-! ## Faults (R113, R114) -/

/-- A member that a stop or a fault halts. -/
def Member.halted (m : Member) : Member := { m with state := .halt, runTimer := none }

/-- A member of a group that has come to rest (R86). -/
def Member.rested (m : Member) : Member := { m with state := .still, runTimer := none }

/-- A fault request for a group: carried out when it is MOVING or STOPPING, else ignored. -/
def State.faultGroup (s : State) (g : GroupId) (k : FaultKind) (subj : Option PointId) : State :=
  if (s.group g).state.active then
    let r := s.group g
    let s1 := s.setGroup g { r.updAll Member.halted with state := .fault, fault := some ⟨k, subj⟩ }
    let s2 := s1.notifyAll .groupFault (.group g)
    if r.origin = .cue then s2.cueFailed g .faulted else s2
  else s

/-- A fault request for the group of a point, with the point as subject. -/
def State.faultPoint (s : State) (p : PointId) (k : FaultKind) : State :=
  match (s.point p).group with
  | some g => s.faultGroup g k (some p)
  | none => s

/-! ## Stops (R110, R112) -/

/-- A member of a STOPPING group no longer holds it: DONE, or HALT and accepted as STILL. -/
def State.memberStopped (s : State) (m : Member) : Bool :=
  m.state == .done || (m.state == .halt && s.sense m.point == some .still)

/-- The end of STOPPING is checked, and the group enters IDLE when every member has stopped. -/
def State.endStopping (s : State) (g : GroupId) : State :=
  if (s.group g).state = .stopping ∧ (s.group g).members.all s.memberStopped then
    let r := s.group g
    let s1 := s.setGroup g { r.updAll Member.rested with state := .idle }
    let s2 := s1.notifyHolder g .groupStopped (.group g)
    if r.origin = .cue then s2.cueFailed g .stopped else s2
  else s

/-- A stop request: carried out when the group is MOVING, else without effect. -/
def State.stopGroup (s : State) (g : GroupId) (cause : StopCause) : State :=
  if (s.group g).state = .moving then
    let r := s.group g
    let r1 := r.updAll fun m => if m.state = .done then { m with runTimer := none } else m.halted
    (s.setGroup g { r1 with state := .stopping, stopCause := some cause }).endStopping g
  else s

/-- Stop requests to each MOVING group held by a port, in group order (R160, R79). -/
def State.stopHeld (s : State) (p : Port) (cause : StopCause) : State :=
  allGroups.foldl (fun t g => if (t.group g).holder = some p then t.stopGroup g cause else t) s

/-- Stop requests to every MOVING group, in group order (R134). -/
def State.stopAll (s : State) (cause : StopCause) : State :=
  allGroups.foldl (fun t g => t.stopGroup g cause) s

/-! ## Mains trips and runaway (R126, R130) -/

/-- The subject of MAINS_TRIPPED (R130). -/
def TripCause.subject : TripCause → Subject
  | .opened q => .port q
  | .runaway p => .point p
  | .estop => .none
  | .reset => .none

/-- The fault a trip sends to a group (R130 step 3). -/
def State.tripFault (s : State) (c : TripCause) (g : GroupId) : FaultCause :=
  match c with
  | .estop => ⟨.estop, none⟩
  | .runaway p => if (s.point p).group = some g then ⟨.runaway, some p⟩ else ⟨.mains, none⟩
  | .opened _ => ⟨.mains, none⟩
  | .reset => ⟨.mains, none⟩

/-- A trip: a CLOSED mains becomes TRIPPED, and every MOVING or STOPPING group is faulted; a TRIPPED mains stays. -/
def State.tripMains (s : State) (c : TripCause) : State :=
  if s.stopUnit.mains = .closed then
    let s1 := s.setStopUnit { s.stopUnit with mains := .tripped, tripCause := c }
    let s2 := s1.notifyAll .mainsTripped c.subject
    allGroups.foldl (fun t g => t.faultGroup g (s.tripFault c g).kind (s.tripFault c g).subject) s2
  else s

/-- A point has run away (R126), unless its flag is already set (R125). -/
def State.runaway (s : State) (p : PointId) : State :=
  if (s.point p).stop.runaway then s
  else
    ((s.setStop p { (s.point p).stop with runaway := true }).notifyAll .runaway (.point p)).tripMains (.runaway p)

/-! ## STARTs (R89 to R94) -/

/-- What a START asks for. -/
inductive Move where
  | height (height : Int)
  | dist (distance : Int)
  | jog (d : Dir)
deriving DecidableEq, Repr

/-- How a START ended: refused, answered OK with the group still IDLE, or answered OK with the group MOVING. -/
inductive StartResult where
  | refused (r : Reject)
  | atOnce
  | moving
deriving DecidableEq, Repr

/-- The position of the lead point, the first member. -/
def State.leadPos (s : State) (g : GroupId) : Int :=
  match (s.group g).members with
  | m :: _ => (s.pos m.point).getD 0
  | [] => 0

/-- The distance D of a TARGET move (R91); 0 for a JOG. -/
def State.travel (s : State) (g : GroupId) : Move → Int
  | .height h => h - s.leadPos g
  | .dist d => d
  | .jog _ => 0

/-- The direction of a distance; none when it is 0. -/
def dirOf (d : Int) : Option Dir := if 0 < d then some .up else if d < 0 then some .down else none

/-- The direction of a START (R91). -/
def State.startDir (s : State) (g : GroupId) (m : Move) : Option Dir :=
  match m with
  | .jog d => some d
  | .height h => dirOf (s.travel g (.height h))
  | .dist d => dirOf d

/-- Check 8 for one member: bound, then a position, then a load value. -/
def State.notReady (s : State) (p : PointId) : Option Reject :=
  if (s.point p).boundSlot.isNone then some (.notReady .unbound (some p))
  else if (s.pos p).isNone then some (.notReady .noPosition (some p))
  else if (s.point p).load.value = .absent then some (.notReady .noLoad (some p))
  else none

/-- Checks 9 to 12 for one member: the reason it fails by, in a direction. -/
def State.checkOverload (s : State) (p : PointId) : Option Reject :=
  if (s.point p).load.overload.active then some (.blocked .overload (some p)) else none

def State.checkUnderload (s : State) (d : Option Dir) (p : PointId) : Option Reject :=
  if d = some .down ∧ (s.point p).load.underload.active then some (.blocked .underload (some p)) else none

def State.checkStops (s : State) (d : Option Dir) (p : PointId) : Option Reject :=
  if (match d with | some e => (s.point p).stop.blocks e | none => false) || (s.point p).stop.runaway then
    some (.blocked .stopInput (some p))
  else none

def State.checkDuty (s : State) (p : PointId) : Option Reject :=
  if (s.point p).load.dutyHot then some (.blocked .duty (some p)) else none

/-- The port's enable is ACTIVE. -/
def State.enabled (s : State) : Option Port → Bool
  | some p => (s.port p).enable
  | none => false

/-- Checks 1 to 7 of Table 5-4. -/
def State.startGate (s : State) (req : Option Port) (g : GroupId) : Option Reject :=
  if ¬ (req.isSome ∧ (s.group g).holder = req) then some .notHolder
  else if (s.group g).state ≠ .idle then some .busy
  else if (s.group g).members = [] then some (.notReady .empty none)
  else if s.stopUnit.estop then some (.blocked .estop none)
  else if s.stopUnit.mains ≠ .closed then some (.blocked .mains none)
  else if s.stopUnit.hold.some then some (.blocked .hold none)
  else if ¬ s.enabled req then some (.blocked .noEnable none)
  else none

/-- Table 5-4 in its order: the first check that fails gives the result. -/
def State.startCheck (s : State) (req : Option Port) (g : GroupId) (m : Move) : Option Reject :=
  let ps := (s.group g).members.map Member.point
  let d := s.startDir g m
  s.startGate req g <|> ps.findSome? s.notReady <|> ps.findSome? s.checkOverload <|>
    ps.findSome? (s.checkUnderload d) <|> ps.findSome? (s.checkStops d) <|> ps.findSome? s.checkDuty

/-- R92: the travel D' of a TARGET move of D, limited so that every target lies within its point's soft limits. -/
def State.clampTravel (s : State) (g : GroupId) (d : Int) : Int :=
  let ps := (s.group g).members.map Member.point
  let d1 :=
    if 0 < d then ps.foldl (fun a p => min a ((s.point p).softMax - (s.pos p).getD 0)) d
    else ps.foldl (fun a p => max a ((s.point p).softMin - (s.pos p).getD 0)) d
  let d2 := if dirOf d1 = dirOf d then d1 else 0
  if ps.all fun p => decide ((s.point p).softMin ≤ (s.pos p).getD 0 + d2 ∧
      (s.pos p).getD 0 + d2 ≤ (s.point p).softMax)
  then d2 else 0

/-- The number of kilograms of a load value; none when it is absent or OVER. -/
def Load.kilograms : Load → Option Int
  | .kg v => some v
  | .absent => none
  | .over => none

/-- A member as a START leaves it (R93). -/
def State.startMember (s : State) (applied : Option Int) (m : Member) : Member :=
  { m with
    startPos := s.pos m.point
    baseline := (s.point m.point).load.value.kilograms
    target := match applied with
      | some d => (s.pos m.point).map (· + d)
      | none => none
    releasePos := none
    releasedMoving := false
    settle := 0
    state := .run
    runTimer := s.timer Config.runTime }

/-- R93: the move begins. -/
def State.begin (s : State) (g : GroupId) (kind : MoveKind) (d : Dir) (o : MoveOrigin) (applied : Option Int) :
    State :=
  s.setGroup g
    { (s.group g).updAll (s.startMember applied) with
      state := .moving, kind := kind, dir := d, origin := o, applied := applied.getD 0, stopCause := none }

/-- The first member at or beyond its soft limit in a direction (R94). -/
def State.atLimit (s : State) (d : Dir) (p : PointId) : Bool :=
  match d, s.pos p with
  | .up, some x => decide ((s.point p).softMax ≤ x)
  | .down, some x => decide (x ≤ (s.point p).softMin)
  | _, none => false

/-- A START (R89 to R94): checked, then ended at once or carried out. -/
def State.start (s : State) (req : Option Port) (o : MoveOrigin) (g : GroupId) (m : Move) : State × StartResult :=
  match s.startCheck req g m with
  | some r => (s, .refused r)
  | none =>
    match m with
    | .jog d =>
      match ((s.group g).members.map Member.point).find? (s.atLimit d) with
      | some p => (s.notifyHolder g .limitReached (.point p), .atOnce)
      | none => (s.begin g .jog d o none, .moving)
    | _ =>
      let d := s.travel g m
      let d' := s.clampTravel g d
      let s1 := if d' = d then s else s.notifyHolder g .targetClamped (.group g)
      match dirOf d' with
      | some e => (s1.begin g .target e o (some d'), .moving)
      | none => (s1.notifyHolder g .groupDone (.group g), .atOnce)

/-! ## Firing cues (R147, R148, R180) -/

/-- What firing the entry at the pointer came to. -/
inductive FireResult where
  | refused
  | fired
  /-- fired, and the START ended at once: its DONE report follows (R91, R92) -/
  | atOnce
deriving DecidableEq, Repr

/-- READY below the count; at the count DONE, with CUE_END to the owner (R146 to R149). -/
def State.cueReadyOrEnd (s : State) : State :=
  if s.cue.pointer < s.cue.list.length then s.setCue { s.cue with state := .ready }
  else (s.setCue { s.cue with state := .done }).notifyOwner .cueEnd .none

/-- The move of a cue entry; none for a STOP entry. -/
def CueEntry.move (e : CueEntry) : Option Move :=
  match e.action with
  | .moveTo => some (.height e.value)
  | .moveBy => some (.dist e.value)
  | .stop => none

/-- The engine after entry k has fired a move of group g (R147, R180). -/
def Cue.fired (c : Cue) (k : Nat) (g : GroupId) : Cue :=
  { c with
    firedIndex := some k
    pointer := k + 1
    firedGroup := some g
    state := .running
    stall := none }

/-- R147: fires the entry at the pointer. With no entry there nothing happens. -/
def State.fireEntry (s : State) : State × FireResult :=
  match s.cue.list[s.cue.pointer]? with
  | none => (s, .refused)
  | some e =>
    let k := s.cue.pointer
    match e.move with
    | none =>
      let s1 := s.stopGroup e.group .cue
      let s2 := s1.setCue { s1.cue with firedIndex := some k, pointer := k + 1, stall := none }
      ((s2.notifyOwner .cueFired (.cue k)).cueReadyOrEnd, .fired)
    | some m =>
      match s.start s.cue.owner .cue e.group m with
      | (_, .refused r) =>
        ((s.setCue { s.cue with state := .stalled, stall := some (.refused r) }).notifyOwner .cueStall (.cue k), .refused)
      | (s1, .atOnce) => ((s1.setCue (s1.cue.fired k e.group)).notifyOwner .cueFired (.cue k), .atOnce)
      | (s1, .moving) => ((s1.setCue (s1.cue.fired k e.group)).notifyOwner .cueFired (.cue k), .fired)

/-- The entry at the fired index has follow yes. -/
def State.follows (s : State) : Bool :=
  match s.cue.firedIndex with
  | some k =>
    match s.cue.list[k]? with
    | some e => e.follow
    | none => false
  | none => false

/-- A DONE report of the fired group (R148), taken while RUNNING. A follow fires the next entry at once, and a fire
whose START ends at once reports DONE in its turn, each time one entry further; n bounds the chain. -/
def State.cueChain : Nat → State → State
  | 0, s => (s.setCue { s.cue with firedGroup := none }).cueReadyOrEnd
  | n + 1, s =>
    let s1 := s.setCue { s.cue with firedGroup := none }
    if s.follows ∧ s.cue.pointer < s.cue.list.length then
      match s1.fireEntry with
      | (s2, .atOnce) => State.cueChain n s2
      | (s2, .fired) => s2
      | (s2, .refused) => s2
    else s1.cueReadyOrEnd

/-- A DONE report that the engine acts on; the list's length bounds the chain, since each fire raises the pointer. -/
def State.cueDone (s : State) : State := State.cueChain s.cue.list.length s

/-- A completion report with outcome DONE (R148). -/
def State.cueCompleted (s : State) (g : GroupId) : State :=
  if s.cue.state = .running ∧ s.cue.firedGroup = some g then s.cueDone else s

/-- Fires the entry at the pointer, with the DONE report that a START ended at once brings. -/
def State.fire (s : State) : State × FireResult :=
  match s.fireEntry with
  | (s1, .atOnce) => (s1.cueDone, .atOnce)
  | (s1, .fired) => (s1, .fired)
  | (s1, .refused) => (s1, .refused)

/-! ## Arrival (R100 to R103) -/

/-- R103: the group's completion is checked. -/
def State.complete (s : State) (g : GroupId) : State :=
  if (s.group g).members.all fun m => m.state == .done then
    let r := s.group g
    let s1 := s.setGroup g { r.updAll Member.rested with state := .idle }
    let s2 := s1.notifyHolder g .groupDone (.group g)
    if r.origin = .cue then s2.cueCompleted g else s2
  else s

/-- R102: the stop lead learnt from a measured coast. -/
def learnedLead (lead measured : Nat) : Nat := (3 * lead + measured + 2) / 4

/-- R102: the measured coast, put between 0 and 250. -/
def measuredCoast (final release : Int) (d : Dir) : Nat := (clamp 0 250 ((final - release) * d.sign)).toNat

/-- R101 step 1: the stop lead of a point after its member enters DONE. -/
def State.learn (s : State) (d : Dir) (m : Member) : State :=
  match m.releasedMoving, s.pos m.point, m.releasePos with
  | true, some final, some release =>
    s.setPoint m.point { s.point m.point with
      stopLead := learnedLead (s.point m.point).stopLead (measuredCoast final release d) }
  | _, _, _ => s

/-- R101 step 2: the final position is further from the target than the tolerance. -/
def State.arrivalError (s : State) (tolerance : Nat) (m : Member) : Bool :=
  match s.pos m.point, m.target with
  | some final, some target => decide (tolerance < (final - target).natAbs)
  | _, _ => false

/-- R101: a COAST member enters DONE. -/
def State.memberDone (s : State) (g : GroupId) (m : Member) : State :=
  let s1 := s.setGroup g ((s.group g).updMember m.point fun x => { x with state := .done })
  let s2 := s1.learn (s.group g).dir m
  let s3 := if s2.arrivalError (s.group g).bands.tolerance m then s2.notifyHolder g .arrivalError (.point m.point) else s2
  s3.complete g

/-- A member as its release leaves it (R100). -/
def State.releaseMember (s : State) (d : Dir) (m : Member) : Member :=
  { m with
    state := .coast
    runTimer := none
    releasePos := s.pos m.point
    releasedMoving := s.sense m.point == some d.sense }

/-- The remaining travel is at or below the stop lead (R100). -/
def State.arrives (s : State) (d : Dir) (m : Member) : Bool :=
  match s.pos m.point, m.target with
  | some x, some t => decide ((t - x) * d.sign ≤ ((s.point m.point).stopLead : Int))
  | _, _ => false

/-- R96 step 4: the reporting member's arrival. -/
def State.checkArrival (s : State) (g : GroupId) (m : Member) : State :=
  if s.arrives (s.group g).dir m then
    let m1 := s.releaseMember (s.group g).dir m
    let s1 := s.setGroup g ((s.group g).updMember m.point fun _ => m1)
    if s.sense m.point = some .still then s1.memberDone g m1 else s1
  else s

/-- R96 step 5, R105: the reporting member's soft limit in a JOG. -/
def State.checkJogLimit (s : State) (g : GroupId) (m : Member) : State :=
  if s.atLimit (s.group g).dir m.point then
    (s.stopGroup g .limit).notifyHolder g .limitReached (.point m.point)
  else s

/-! ## Level travel (R96 to R98) -/

/-- RUN and PAUSE members travel (Table 5-3). -/
def MemberState.travelling : MemberState → Bool
  | .run => true
  | .pause => true
  | .still => false
  | .coast => false
  | .done => false
  | .halt => false

/-- The progress of a travelling member (R97); none for any other. -/
def State.progress (s : State) (d : Dir) (m : Member) : Option Int :=
  if m.state.travelling then
    match s.pos m.point, m.startPos with
    | some x, some x0 => some ((x - x0) * d.sign)
    | _, _ => none
  else none

/-- m: the least progress among the travelling members; none when none is travelling. -/
def State.leastProgress (s : State) (g : GroupId) : Option Int :=
  ((s.group g).members.filterMap (s.progress (s.group g).dir)).min?

/-- The lead of a travelling member (R97). -/
def State.lead (s : State) (g : GroupId) (m : Member) : Option Int :=
  match s.progress (s.group g).dir m, s.leastProgress g with
  | some x, some least => some (x - least)
  | _, _ => none

/-- The member's lead is at or above a level. -/
def State.leadsBy (s : State) (g : GroupId) (level : Nat) (m : Member) : Bool :=
  match s.lead g m with
  | some l => decide ((level : Int) ≤ l)
  | none => false

/-- The member's lead is at or below a level. -/
def State.leadWithin (s : State) (g : GroupId) (level : Nat) (m : Member) : Bool :=
  match s.lead g m with
  | some l => decide (l ≤ (level : Int))
  | none => false

/-- R98 for one member. -/
def State.pauseOrResume (s : State) (g : GroupId) (m : Member) : Member :=
  match m.state with
  | .run => if s.leadsBy g (s.group g).bands.pause m then { m with state := .pause, runTimer := none } else m
  | .pause =>
    if s.leadWithin g (s.group g).bands.resume m then { m with state := .run, runTimer := s.timer Config.runTime }
    else m
  | _ => m

/-- R98: every travelling member is taken against the same least progress. -/
def State.levelMembers (s : State) (g : GroupId) : State :=
  s.setGroup g ((s.group g).updAll (s.pauseOrResume g))

/-- R96 steps 4 and 5: the reporting member's arrival or limit, while it is in RUN or PAUSE. -/
def State.checkReporter (s : State) (g : GroupId) (p : PointId) : State :=
  match (s.group g).member p with
  | some m =>
    if m.state.travelling then
      match (s.group g).kind with
      | .target => s.checkArrival g m
      | .jog => s.checkJogLimit g m
    else s
  | none => s

/-- A position report of a point (R96): for a member of a MOVING group the trip check, then pause and resume, then
its own arrival or limit. -/
def State.positionReport (s : State) (p : PointId) : State :=
  match (s.point p).group with
  | none => s
  | some g =>
    if (s.group g).state = .moving then
      match (s.group g).members.find? (s.leadsBy g (s.group g).bands.trip) with
      | some m => s.faultGroup g .skew (some m.point)
      | none => (s.levelMembers g).checkReporter g p
    else s

/-! ## Share supervision (R106) -/

/-- The half width of a share band (R106). -/
def shareBand (baseline : Int) (q : Nat) : Nat := max 20 (baseline.natAbs * q / 100)

/-- The share check fails: OVER, or outside the band around the baseline. -/
def shareFails (v : Load) (baseline : Option Int) (q : Nat) : Bool :=
  match v, baseline with
  | .over, _ => true
  | .kg x, some b => decide (shareBand b q < (x - b).natAbs)
  | .kg _, none => false
  | .absent, _ => false

/-- RUN, PAUSE and COAST members are supervised (R106). -/
def MemberState.supervised : MemberState → Bool
  | .run => true
  | .pause => true
  | .coast => true
  | .still => false
  | .done => false
  | .halt => false

/-- R106: an arrival counts toward the member's settling, and from the fourth its share is checked. -/
def State.shareArrival (s : State) (p : PointId) : State :=
  match (s.point p).group with
  | none => s
  | some g =>
    match (s.group g).member p with
    | none => s
    | some m =>
      if (s.group g).state = .moving ∧ m.state.supervised then
        let n := min (m.settle + 1) 4
        let s1 := s.setGroup g ((s.group g).updMember p fun x => { x with settle := n })
        if n = 4 ∧ shareFails (s.point p).load.value m.baseline (s.group g).bands.share then
          s1.faultGroup g .share (some p)
        else s1
      else s

/-! ## Motion checks (R108, R109) -/

/-- R108: the run timer of the member that a point is expires, once it is due. -/
def State.runTimerExpiry (s : State) (p : PointId) : State :=
  match (s.point p).group with
  | none => s
  | some g =>
    match (s.group g).member p with
    | none => s
    | some m =>
      if s.due m.runTimer then
        if s.sense p = some (s.group g).dir.sense then
          s.setGroup g ((s.group g).updMember p fun x => { x with runTimer := none })
        else
          (s.setGroup g ((s.group g).updMember p fun x => { x with runTimer := none })).faultGroup g .noMotion (some p)
      else s

/-- R109, Table 5-8: a change of a point's accepted motion sense to v. -/
def State.senseChange (s : State) (p : PointId) (v : Sense) : State :=
  match (s.point p).group with
  | none => s
  | some g =>
    match (s.group g).member p with
    | none => s
    | some m =>
      match (s.group g).state, m.state with
      | .moving, .run =>
        if v = .still then
          s.setGroup g ((s.group g).updMember p fun x => { x with runTimer := s.timer Config.runTime })
        else if v = (s.group g).dir.sense then s
        else s.faultGroup g .wrongDirection (some p)
      | .moving, .coast => if v = .still then s.memberDone g m else s
      | .stopping, .halt => if v = .still then s.endStopping g else s
      | _, _ => s

end Sys2Proof.Machine
end

