-- ==== Sys2Proof/Machine/LoadUnit.lean ====
section
/-! DEFINITION. The Load Unit's events (chapter 3): duty, load sample arrivals, the evaluation of the load conditions, and
the installing of calibration copies. -/

namespace Sys2Proof.Machine

/-- The overload condition of a point is evaluated against its present load value (R59), with the fault request of
R63. -/
def State.evaluateOverload (s : State) (p : PointId) : State :=
  let l := (s.point p).load
  let r := l.overload.evaluate l.aboveHigh l.atHighExit l.alarm
  let s1 := s.setLoad p { l with overload := r.1 }
  match r.2 with
  | .none => s1
  | .cleared => s1.notifyAll .overloadCleared (.point p)
  | .entered => (s1.notifyAll .overload (.point p)).faultPoint p .overload

/-- R63: an underload entering ACTIVE faults the point's group when it travels down. -/
def State.underloadFault (s : State) (p : PointId) : State :=
  match (s.point p).group with
  | some g => if (s.group g).dir = .down then s.faultGroup g .underload (some p) else s
  | none => s

/-- The underload condition of a point is evaluated against its present load value (R60). -/
def State.evaluateUnderload (s : State) (p : PointId) : State :=
  let l := (s.point p).load
  let r := l.underload.evaluate l.belowLow l.atLowExit l.alarm
  let s1 := s.setLoad p { l with underload := r.1 }
  match r.2 with
  | .none => s1
  | .cleared => s1.notifyAll .underloadCleared (.point p)
  | .entered => (s1.notifyAll .underload (.point p)).underloadFault p

/-- R50 step 4: both conditions are evaluated when a load value is present. -/
def State.evaluateLoads (s : State) (p : PointId) : State :=
  if (s.point p).load.value = .absent then s else (s.evaluateOverload p).evaluateUnderload p

/-- R65: duty_hot is evaluated. -/
def State.evaluateDuty (s : State) (p : PointId) : State :=
  let l := (s.point p).load
  let s1 := s.setLoad p { l with dutyHot := l.hotAfter }
  if l.hotAfter = l.dutyHot then s1
  else if l.hotAfter then s1.notifyAll .dutyHot (.point p)
  else s1.notifyAll .dutyCool (.point p)

/-- R50: a load sample arrival for point p, bound to slot n, with raw code r. -/
def State.loadArrival (s : State) (n : SlotId) (p : PointId) (r : Code) : State :=
  let l := (s.point p).load
  let s1 := (s.setLoad p { l with duty := dutyAfter l.duty (s.effective n) }).evaluateDuty p
  let s2 := s1.setLoad p ((s1.point p).load.take r)
  (s2.evaluateLoads p).shareArrival p

end Sys2Proof.Machine
end

