-- ==== Sys2Proof/Machine/Binding.lean ====
section
/-! DEFINITION. The Point Directory's binding and unbinding (R6). -/

namespace Sys2Proof.Machine

/-- R6: point p is bound to slot n in one action; the notice is the one of R179. -/
def State.bind (s : State) (p : PointId) (n : SlotId) : State :=
  let s1 := s.setSlot n { s.slot n with state := .bound, point := some p, candidate := none, accepted := none }
  let r := s1.point p
  let s2 := s1.setPoint p
    { r with boundSlot := some n, lastSlot := some n, raw := none, load := r.load.restart, lastRun := none }
  s2.notifyAll .nodeJoined (.point p)

/-- R6: the point's side of an unbind, with the fault of its MOVING or STOPPING group. -/
def State.unbindPoint (s : State) (p : PointId) : State :=
  let r := s.point p
  (s.setPoint p { r with boundSlot := none, raw := none, load := r.load.restart }).faultPoint p .nodeLost

/-- A slot record that enters EMPTY (R7, R9, R26, R29). -/
def SlotRec.emptied (r : SlotRec) : SlotRec := { SlotRec.reset with idleOwed := r.idleOwed }

/-- A slot record that becomes FOREIGN, keeping its identity (R10, R16, R26). -/
def SlotRec.madeForeign (r : SlotRec) : SlotRec :=
  { r with state := .foreign, point := none, candidate := none, accepted := none }

end Sys2Proof.Machine
end

