-- ==== Sys2Proof/Machine/Service.lean ====
section
/-! DEFINITION. The Service Engine (chapter 2.8 and 2.9): what it places, what it takes, how a job ends and the next one
starts; and the Point Directory's joins and losses, which end jobs. -/

namespace Sys2Proof.Machine

/-! ## Messages (Tables 2-5 and 10-9) -/

/-- The request message of a job. -/
def Job.message (j : Job) : List Byte :=
  match j.kind with
  | .ident => [0x01]
  | .calRead => [0x02]
  | .calWrite =>
    match j.write with
    | some c => 0x03 :: (bytes2 (BitVec.ofNat 16 c.zero) ++ bytes2 (BitVec.ofNat 16 c.span) ++ bytes2 (BitVec.ofNat 16 c.wll))
    | none => [0x03]

/-- The response length of a kind. -/
def ServiceKind.responseLength : ServiceKind → Nat
  | .ident => 5
  | .calRead => 7
  | .calWrite => 1

/-- The outcomes of R39; OK hands on the response's data, the bytes after the status. -/
inductive ServiceOutcome where
  | ok (data : List Byte)
  | refused
  | length
  | timeout
  | aborted
  | lost
deriving DecidableEq, Repr

/-- R39: the outcome of a job of a kind. A message of more than 7 bytes is one whose eighth byte ABORTED it (R37). -/
def ServiceKind.outcome (k : ServiceKind) : JobEnd → ServiceOutcome
  | .response [] => .length
  | .response (status :: data) =>
    if 7 < (status :: data).length then .aborted
    else if status ≠ 0 then .refused
    else if (status :: data).length = k.responseLength then .ok data
    else .length
  | .timeout => .timeout
  | .aborted => .aborted
  | .lost => .lost

/-- The job ended without failure. -/
def ServiceOutcome.isOk : ServiceOutcome → Bool
  | .ok _ => true
  | .refused => false
  | .length => false
  | .timeout => false
  | .aborted => false
  | .lost => false

/-- The identity an IDENT response carries. -/
def identityOf : List Byte → Identity
  | [a, b, c, d] => word4 a b c d
  | _ => 0

/-- The three values a CAL_READ response carries. -/
def calOf : List Byte → Cal
  | [z1, z0, s1, s0, w1, w0] => ⟨(word2 z1 z0).toNat, (word2 s1 s0).toNat, (word2 w1 w0).toNat⟩
  | _ => ⟨0, 0, 0⟩

/-- The phase of byte k (R36). -/
def phaseOf (k : Nat) : Mark := if k % 2 = 0 then .phase0 else .phase1

/-! ## Updates -/

def State.setActive (s : State) (j : Option Job) : State := s.setService { s.service with active := j }

def State.setJoinList (s : State) (l : List JoinEntry) : State := s.setService { s.service with joinList := l }

def State.setPortQueue (s : State) (l : List PortEntry) : State := s.setService { s.service with portQueue := l }

/-- R38: two IDLE fields are owed on a slot before a new job places its first byte there. -/
def State.oweIdle (s : State) (n : SlotId) : State := s.setSlot n { s.slot n with idleOwed := 2 }

/-- Removes a slot's entry from the join list (R9, R16). -/
def State.dropJoin (s : State) (n : SlotId) : State :=
  s.setJoinList (s.service.joinList.filter fun e => !(e.slot == n))

/-! ## Starting jobs (R41) -/

/-- A job at its first byte. -/
def newJob (n : SlotId) (k : ServiceKind) (o : JobOrigin) (p : Option PointId) (w : Option Cal) : Job :=
  { slot := n, kind := k, origin := o, point := p, write := w, phase := .sending, index := 0, response := [],
    count := 0, prev := none, discard := false }

/-- The job a join entry asks for: IDENT, or CAL_READ of the point bound to the slot. -/
def State.joinJob (s : State) (e : JoinEntry) : Job :=
  match e.kind with
  | .full => newJob e.slot .ident .join none none
  | .calibration => newJob e.slot .calRead .calibration (s.slot e.slot).point none

/-- The job a port entry asks for. -/
def PortEntry.job (e : PortEntry) : Job :=
  newJob e.slot (if e.write.isSome then .calWrite else .calRead) (.port e.port) (some e.point) e.write

/-- The oldest port entry whose point is bound to the recorded slot starts; each older one ends LOST (R41). -/
def State.startPortJob (s : State) : List PortEntry → State
  | [] => s.setPortQueue []
  | e :: rest =>
    if (s.point e.point).boundSlot = some e.slot then (s.setPortQueue rest).setActive (some e.job)
    else (s.notify e.port .serviceFailed (.point e.point)).startPortJob rest

/-- R41: with no active job, the oldest join entry starts, or else the oldest port entry. -/
def State.startJob (s : State) : State :=
  match s.service.active, s.service.joinList with
  | some _, _ => s
  | none, e :: rest => (s.setJoinList rest).setActive (some (s.joinJob e))
  | none, [] => s.startPortJob s.service.portQueue

/-! ## Ending jobs (R10 to R12, R39, R43) -/

/-- The first patched point with an identity. -/
def State.patchedPoint (s : State) (x : Identity) : Option PointId :=
  allPoints.find? fun p => (s.point p).identity == some x

/-- R11: an IDENT that failed returns a JOINING slot to EMPTY. -/
def State.identFailed (s : State) (n : SlotId) : State :=
  if (s.slot n).state = .joining then s.setSlot n (s.slot n).emptied else s

/-- R10: a successful IDENT of slot n with identity x, by the first case of Table 1-5. A bind sends the same job on to
CAL_READ. -/
def State.identDone (s : State) (j : Job) (x : Identity) : State :=
  let n := j.slot
  let s1 := s.setSlot n { s.slot n with identity := some x }
  if (s.slot n).state ≠ .joining then s
  else if x = 0x00000000 ∨ x = 0xFFFFFFFF then
    (s1.setSlot n (s1.slot n).madeForeign).notifyAll .nodeForeign (.slot n)
  else
    match s.patchedPoint x with
    | some p =>
      if (s.point p).boundSlot.isNone then
        (s1.bind p n).setActive (some (newJob n .calRead j.origin (some p) none))
      else (s1.setSlot n (s1.slot n).madeForeign).notifyAll .nodeDuplicate (.slot n)
    | none => (s1.setSlot n (s1.slot n).madeForeign).notifyAll .nodeForeign (.slot n)

/-- The job's result may be handed on: its point has been bound to its slot all the while (R12, R43). A point that left
the slot and came back to it before the end counts as no longer bound, since R16, R44 and R57 discard the result
(DEDUCED; log entry 37). -/
def State.stillBound (s : State) (j : Job) (p : PointId) : Bool :=
  !j.discard && (s.point p).boundSlot == some j.slot

/-- R12: the end of the CAL_READ of a join or calibration job. -/
def State.calReadDone (s : State) (j : Job) (o : ServiceOutcome) : State :=
  match j.point, o with
  | none, _ => s
  | some p, .ok data =>
    if s.stillBound j p then
      (s.setLoad p ((s.point p).load.installRead (calOf data))).notifyAll .serviceDone (.point p)
    else s.notifyAll .serviceFailed (.point p)
  | some p, _ => s.notifyAll .serviceFailed (.point p)

/-- R43, R47, R48: the end of a port job. -/
def State.portJobDone (s : State) (j : Job) (q : Port) (o : ServiceOutcome) : State :=
  match j.point, o with
  | none, _ => s
  | some p, .ok data =>
    if s.stillBound j p then
      let l := (s.point p).load
      let l1 := match j.kind, j.write with
        | .calWrite, some c => l.install c
        | .calRead, _ => l.installRead (calOf data)
        | _, _ => l
      (s.setLoad p l1).notify q .serviceDone (.point p)
    else s.notify q .serviceFailed (.point p)
  | some p, _ => s.notify q .serviceFailed (.point p)

/-- The active job's message exchange ends (R39): its outcome goes to the block that asked for it, and the job ends
or, after an IDENT that bound a point, goes on. The next job is not started here. -/
def State.finishJob (s : State) (e : JobEnd) : State :=
  match s.service.active with
  | none => s
  | some j =>
    let o := j.kind.outcome e
    let s1 := s.setActive none
    let s2 := if o.isOk then s1 else s1.oweIdle j.slot
    match j.origin, j.kind, o with
    | .port q, _, _ => s2.portJobDone j q o
    | _, .ident, .ok data => s2.identDone j (identityOf data)
    | _, .ident, _ => s2.identFailed j.slot
    | _, _, _ => s2.calReadDone j o

/-- The active job's exchange ends and the Service Engine chooses again (R41). -/
def State.endJob (s : State) (e : JobEnd) : State := (s.finishJob e).startJob

/-- R16, R44: point p leaves its slot: the active job that concerns p runs on, and its result is discarded. -/
def State.discardJob (s : State) (p : PointId) : State :=
  s.setActive (s.service.active.map fun j => if j.point = some p then { j with discard := true } else j)

/-- A job of slot n, if active, fails with LOST (R44). -/
def State.loseJob (s : State) (n : SlotId) : State :=
  match s.service.active with
  | some j => if j.slot = n then s.finishJob .lost else s
  | none => s

/-! ## Joining and loss (R7, R9) -/

/-- R7: the slot enters JOINING and a full join entry is appended; the Service Engine looks at its lists. -/
def State.slotJoins (s : State) (n : SlotId) : State :=
  let s1 := s.setSlot n { s.slot n with state := .joining, presence := Config.presenceFrames, miss := 0 }
  (s1.setJoinList (s1.service.joinList ++ [⟨n, .full⟩])).startJob

/-- R9, Table 1-4: the slot is lost. -/
def State.slotIsLost (s : State) (n : SlotId) : State :=
  let r := s.slot n
  let s1 := (s.setSlot n r.emptied).dropJoin n
  match r.state, r.point with
  | .empty, _ => s
  | .joining, _ => (s1.loseJob n).startJob
  | .foreign, _ => ((s1.loseJob n).notifyAll .nodeLost (.slot n)).startJob
  | .bound, some p => (((s1.unbindPoint p).loseJob n).notifyAll .nodeLost (.point p)).startJob
  | .bound, none => (s1.loseJob n).startJob

/-! ## The message exchange, frame by frame (R36 to R38) -/

/-- What the active job places: a byte, the two END fields, then IDLE and the echoes, or the two ABORT fields (R36,
R37). -/
def Job.placed (j : Job) : Byte × Mark :=
  match j.phase with
  | .sending => ((j.message[j.index]?).getD 0xFF, phaseOf j.index)
  | .ending sent => if sent < 2 then (0xFF, .fourth) else (0xFF, .idle)
  | .receiving =>
    match j.response with
    | [] => (0xFF, .idle)
    | _ :: taken => (0xFF, phaseOf taken.length)
  | .aborting _ => (0xFF, .fourth)

/-- The active job waits for IDLE fields owed on its slot before its first byte (R38). -/
def State.jobWaits (s : State) (j : Job) : Bool :=
  j.phase == .sending && decide (0 < (s.slot j.slot).idleOwed)

/-- The service octet and mark of a slot's downstream field: 0xFF and IDLE for a slot that carries no part of the
active transfer (R22). -/
def State.placed (s : State) (n : SlotId) : Byte × Mark :=
  match s.service.active with
  | some j => if j.slot = n ∧ ¬ s.jobWaits j then j.placed else (0xFF, .idle)
  | none => (0xFF, .idle)

/-- The awaited byte or END has had its 64 frames (R36, R37). -/
def Job.overdue (j : Job) : Bool :=
  match j.phase with
  | .sending => decide (Config.serviceFrames ≤ j.count)
  | .receiving => decide (Config.serviceFrames ≤ j.count)
  | .ending _ => false
  | .aborting _ => false

/-- The transfer fails with TIMEOUT once its 64 frames have run out. -/
def State.serviceOverdue (s : State) : State :=
  match s.service.active with
  | some j => if j.overdue then s.endJob .timeout else s
  | none => s

/-- The active job after its fields of a frame have been sent: the frame count, the two END fields, the IDLE field with
which it begins to receive, the two ABORT fields after which the transfer fails with ABORTED (R36, R37). The part is
still placing its END in the frame of the second one, so an ABORT whose second sighting falls there fails the transfer
(R38). waits says that it placed nothing (R38). -/
def State.serviceSent (s : State) (waits : Bool) : State :=
  match s.service.active with
  | none => s
  | some j =>
    match j.phase with
    | .sending => if waits then s else s.setActive (some { j with count := j.count + 1 })
    | .receiving => s.setActive (some { j with count := j.count + 1 })
    | .ending 0 => s.setActive (some { j with phase := .ending 1 })
    | .ending 1 => s.setActive (some { j with phase := .ending 2 })
    | .ending _ => s.setActive (some { j with phase := .receiving, count := 1, prev := none })
    | .aborting 0 => s.setActive (some { j with phase := .aborting 1 })
    | .aborting _ => s.endJob .aborted

/-- The service octet and mark of a valid upstream field of slot n (R35 to R38). -/
def State.serviceTaken (s : State) (n : SlotId) (o : Byte) (m : Mark) : State :=
  match s.service.active with
  | none => s
  | some j =>
    if j.slot ≠ n then s
    else
      let twice := j.prev = some (o, m)
      let markTwice := j.prev.map Prod.snd = some m
      let j1 := { j with prev := some (o, m) }
      match j.phase with
      | .sending =>
        if j.count = 0 then s
        else if twice ∧ m = .fourth then s.endJob .aborted
        else if markTwice ∧ m = phaseOf j.index then
          if j.index + 1 < j.message.length then s.setActive (some { j1 with index := j.index + 1, count := 0 })
          else s.setActive (some { j1 with phase := .ending 0, count := 0 })
        else s.setActive (some j1)
      | .ending _ => if twice ∧ m = .fourth then s.endJob .aborted else s.setActive (some j1)
      | .receiving =>
        if twice ∧ m = phaseOf j.response.length then
          if j.response.length < 7 then s.setActive (some { j1 with response := j.response ++ [o], count := 0 })
          else s.setActive (some { j1 with phase := .aborting 0, count := 0 })
        else if twice ∧ m = .fourth ∧ o = 0xFF then s.endJob (.response j.response)
        else s.setActive (some j1)
      | .aborting _ => s.setActive (some j1)

/-- An invalid field of slot n breaks a pair of service values (R35). -/
def State.serviceBroken (s : State) (n : SlotId) : State :=
  match s.service.active with
  | some j => if j.slot = n then s.setActive (some { j with prev := none }) else s
  | none => s

/-- R44: the port's waiting entries are removed without running and without notice. -/
def State.dropPortEntries (s : State) (q : Port) : State :=
  s.setPortQueue (s.service.portQueue.filter fun e => !(e.port == q))

/-- R42: the queue takes no entry from a port that has 2 there, nor any once it holds 6. -/
def State.queueFull (s : State) (q : Port) : Bool :=
  decide (2 ≤ (s.service.portQueue.filter fun e => e.port == q).length) || decide (6 ≤ s.service.portQueue.length)

/-- R42: an entry is appended to the port service queue, and the Service Engine looks at its lists. -/
def State.queueEntry (s : State) (e : PortEntry) : State :=
  (s.setPortQueue (s.service.portQueue ++ [e])).startJob

/-! ## The commands -/

/-- SLOT_JOINING (R7): by itself, the presence counter of an EMPTY slot goes from 3 to 4 (log entry 8). -/
def execSlotJoining (n : SlotId) (s : State) : Host.Outcome State Fault Refusal :=
  .next (s.event fun t =>
    if (t.slot n).state = .empty ∧ Config.presenceFrames ≤ (t.slot n).presence + 1 then t.slotJoins n else t)

/-- SLOT_LOST (R9): by itself, the miss counter of a slot goes from 7 to 8 (log entry 8). -/
def execSlotLost (n : SlotId) (s : State) : Host.Outcome State Fault Refusal :=
  .next (s.event fun t =>
    if (t.slot n).state ≠ .empty ∧ Config.missFrames ≤ (t.slot n).miss + 1 then t.slotIsLost n else t)

/-- SERVICE_JOB_END (R39): the active job's exchange ends as the operand says (log entry 9). -/
def execServiceJobEnd (e : JobEnd) (s : State) : Host.Outcome State Fault Refusal :=
  .next (s.event fun t => if t.service.active.isSome then t.endJob e else t)

/-- SERVICE_JOB_START (R41). -/
def execServiceJobStart (s : State) : Host.Outcome State Fault Refusal :=
  .next (s.event fun t => t.startJob)

/-- SERVICE_TIMEOUT (R36, R37): the active transfer fails if its 64 frames have run out. -/
def execServiceTimeout (s : State) : Host.Outcome State Fault Refusal :=
  .next (s.event fun t => t.serviceOverdue)

end Sys2Proof.Machine
end

