-- ==== Sys2Proof/Machine/Bus.lean ====
section
/-! DEFINITION. The Hoist Bus Controller's frame and upstream fields (chapter 2), with the Stop Unit's handling of an
indication change (chapter 6). -/

namespace Sys2Proof.Machine

/-! ## Downstream: the frame (R21, R22, R32) -/

/-- The number of frames of an epoch. -/
def Epoch.frames : Epoch → Nat
  | .e8 => 8
  | .e16 => 16

/-- The position of the next frame (R21, R33). -/
def Bus.nextPos (b : Bus) : Nat :=
  if b.restart then 0 else if b.framePos + 1 < b.epoch.frames then b.framePos + 1 else 0

/-- A new frame begins: time goes on by 2 ms and the frame position rises or returns to 0. -/
def State.advance (s : State) : State :=
  { s with
    now := s.now + Config.framePeriod
    bus := { s.bus with framePos := s.bus.nextPos, restart := false } }

/-- The field sent to a slot (R22). -/
def State.downField (s : State) (n : SlotId) : DownField :=
  { command := s.effective n
    epochMark := s.bus.framePos == 0
    octet := (s.placed n).1
    mark := (s.placed n).2 }

/-- The code of a command, and of a mark, in a slot field (Table 10-7). -/
def Command.code : Command → BitVec 2
  | .stop => 0
  | .up => 1
  | .down => 2

def Mark.code : Mark → BitVec 2
  | .idle => 0
  | .phase0 => 1
  | .phase1 => 2
  | .fourth => 3

def Mark.ofCode (b : BitVec 2) : Mark :=
  if b = 0 then .idle else if b = 1 then .phase0 else if b = 2 then .phase1 else .fourth

/-- The first byte of a downstream field (Table 10-7): bits 7 to 5 zero, the mark, the epoch mark, the command. -/
def DownField.byte0 (f : DownField) : Byte :=
  (0 : BitVec 3) ++ f.mark.code ++ BitVec.ofBool f.epochMark ++ f.command.code

/-- The three bytes of a downstream field, the slot check last (Table 10-7, R178). -/
def DownField.bytes (f : DownField) : List Byte := [f.byte0, f.octet, slotCheck [f.byte0, f.octet]]

/-- The last-run mark of a point is set when UP or DOWN is sent in its BOUND slot's field (R32). -/
def State.markRun (s : State) (p : PointId) (r : PointRec) : PointRec :=
  match r.boundSlot with
  | some n =>
    if (s.slot n).state = .bound ∧ (s.slot n).point = some p ∧ s.effective n ≠ .stop then
      { r with lastRun := some s.now }
    else r
  | none => r

/-- The downstream fields of a frame are sent: the fields, the last-run marks, and one owed IDLE field less for each
slot. -/
def State.sendFields (s : State) : State :=
  { s with
    bus := { s.bus with downstream := Vector.ofFn fun n => s.downField n }
    points := Vector.ofFn fun p => s.markRun p (s.point p)
    slots := s.slots.map fun r => { r with idleOwed := r.idleOwed - 1 } }

/-- The active job waits for owed IDLE fields. -/
def State.serviceWaits (s : State) : Bool :=
  match s.service.active with
  | some j => s.jobWaits j
  | none => false

/-- A new frame (R21, R22, R36, R37): a transfer whose 64 frames have run out fails first, then the fields go out. -/
def State.newFrame (s : State) : State :=
  let s1 := s.serviceOverdue.advance
  s1.sendFields.serviceSent s1.serviceWaits

/-! ## The Stop Unit at an indication change (R119, R120, R125) -/

/-- The travel direction of the MOVING group of a point. -/
def State.movingDir (s : State) (p : PointId) : Option Dir :=
  match (s.point p).group with
  | some g => if (s.group g).state = .moving then some (s.group g).dir else none
  | none => none

/-- R120: a newly set flag of kind k with its mask enabled faults the point's MOVING group where Table 6-3 says so. -/
def State.stopInputFault (s : State) (p : PointId) (k : StopKind) : State :=
  match s.movingDir p with
  | some d => if (s.point p).stop.masks.get k ∧ k.faults d then s.faultPoint p .stopInput else s
  | none => s

/-- R119 for one kind: before and now are the stop bits of the two indications. -/
def State.stopFlag (s : State) (p : PointId) (before now : PerKind Bool) (k : StopKind) : State :=
  let t := (s.point p).stop
  let f := flagAfter (t.modes.get k) (before.get k) (now.get k) (t.flags.get k)
  let s1 := s.setStop p { t with flags := t.flags.set k f }
  if f ∧ ¬ t.flags.get k then (s1.notifyAll .stopInput (.point p)).stopInputFault p k else s1

/-- The stop bits of an indication; each absent when the indication is (R28). -/
def stopsOf : Option Indication → PerKind Bool
  | some v => v.stops
  | none => ⟨false, false, false, false⟩

/-- R125 at an indication change: motion with the allowance run out is a runaway. -/
def State.examineRunaway (s : State) (p : PointId) (v : Sense) : State :=
  if v ≠ .still ∧ s.allowanceOut p then s.runaway p else s

/-- The Stop Unit takes an indication change: the four kinds in order, then the runaway examination. -/
def State.stopUnitChange (s : State) (p : PointId) (before : Option Indication) (v : Indication) : State :=
  (allKinds.foldl (fun t k => t.stopFlag p (stopsOf before) v.stops k) s).examineRunaway p v.sense

/-- The Motion Engine takes an indication change: a change of the motion sense only (R109). -/
def State.motionChange (s : State) (p : PointId) (before : Option Indication) (v : Indication) : State :=
  if before.map Indication.sense = some v.sense then s else s.senseChange p v.sense

/-- R28: the accepted indication takes the new value, and the change is delivered to both blocks, in the order a free
value names. -/
def State.indicationChange (s : State) (n : SlotId) (p : PointId) (v : Indication) : State :=
  let before := (s.slot n).accepted
  let s1 := { s.setSlot n { s.slot n with accepted := some v } with choice := s.choice + 1 }
  if Config.stopUnitFirst s.choice then (s1.stopUnitChange p before v).motionChange p before v
  else (s1.motionChange p before v).stopUnitChange p before v

/-! ## Upstream (R23 to R30) -/

/-- A motion sense code; none for the code that names no motion sense (Table 10-8). -/
def senseOf (b : BitVec 2) : Option Sense :=
  if b = 0 then some .still else if b = 1 then some .up else if b = 2 then some .down else none

/-- The indication of a field; none when its motion sense names none (R26). -/
def upIndication (u : UpField) : Option Indication :=
  (senseOf (u.b0.extractLsb' 4 2)).map fun m =>
    ⟨⟨u.b0.getLsbD 0, u.b0.getLsbD 1, u.b0.getLsbD 2, u.b0.getLsbD 3⟩, m⟩

def upMark (u : UpField) : Mark := Mark.ofCode (u.b0.extractLsb' 6 2)

def upPosition (u : UpField) : Word16 := word2 u.b1 u.b2

def upCode (u : UpField) : Code := (word2 u.b3 u.b4).extractLsb' 4 12

def upSeq (u : UpField) : BitVec 4 := (word2 u.b3 u.b4).extractLsb' 0 4

/-- The slot check matches (R23, R178). -/
def upValid (u : UpField) : Bool := u.b6 == slotCheck [u.b0, u.b1, u.b2, u.b3, u.b4, u.b5]

/-- Step 1 of R24: the counters of R7 and R8. -/
def State.countValid (s : State) (n : SlotId) : State :=
  let r := s.slot n
  if r.state = .empty then
    if Config.presenceFrames ≤ r.presence + 1 then s.slotJoins n
    else s.setSlot n { r with presence := r.presence + 1 }
  else s.setSlot n { r with miss := 0 }

/-- Step 2 of R24: the position of a BOUND slot is stored and reported (R4, R25). -/
def State.takePosition (s : State) (n : SlotId) (x : Word16) : State :=
  match (s.slot n).state, (s.slot n).point with
  | .bound, some p => (s.setPoint p { s.point p with raw := some x }).positionReport p
  | _, _ => s

/-- The indication is accepted: at once in SINGLE mode, on an equal candidate in DOUBLE mode (R27). -/
def State.accepts (s : State) (n : SlotId) (v : Indication) : Bool :=
  match s.bus.mode with
  | .single => true
  | .double => (s.slot n).candidate == some v

/-- Step 3 of R24: indication acceptance of a BOUND slot (R26 to R28). -/
def State.takeIndication (s : State) (n : SlotId) (i : Option Indication) : State :=
  match (s.slot n).state, (s.slot n).point with
  | .bound, some p =>
    let s1 := s.setSlot n { s.slot n with candidate := i }
    match i with
    | some v => if s.accepts n v ∧ (s.slot n).accepted ≠ some v then s1.indicationChange n p v else s1
    | none => s1
  | _, _ => s

/-- Step 4 of R24: the load sequence, and the arrival of a BOUND slot (R29, R30). -/
def State.takeSample (s : State) (n : SlotId) (q : BitVec 4) (r : Code) : State :=
  let s1 := s.setSlot n { s.slot n with lastSeq := some q }
  match (s.slot n).lastSeq with
  | none => s1
  | some q0 =>
    if q0 = q then s
    else match (s.slot n).state, (s.slot n).point with
      | .bound, some p => s1.loadArrival n p r
      | _, _ => s1

/-- R24: a valid field, in its five steps. -/
def State.validField (s : State) (n : SlotId) (u : UpField) : State :=
  ((((s.countValid n).takePosition n (upPosition u)).takeIndication n (upIndication u)).takeSample n (upSeq u) (upCode u)).serviceTaken
    n u.b5 (upMark u)

/-- An invalid field: the counters (R7, R8) and the broken pairs (R27, R35). -/
def State.invalidField (s : State) (n : SlotId) : State :=
  let r := s.slot n
  let s1 := s.serviceBroken n
  if r.state = .empty then s1.setSlot n { r with presence := 0 }
  else if Config.missFrames ≤ r.miss + 1 then s1.slotIsLost n
  else s1.setSlot n { r with miss := r.miss + 1, candidate := none }

/-- An upstream field of slot n; none when the node sent nothing, which no check matches (R23). -/
def State.upstream (s : State) (n : SlotId) (f : Option UpField) : State :=
  match f with
  | some u => if upValid u then s.validField n u else s.invalidField n
  | none => s.invalidField n

/-! ## The commands -/

/-- FRAME (R21). -/
def execFrame (s : State) : Host.Outcome State Fault Refusal := .next (s.event fun t => t.newFrame)

/-- UPSTREAM_FIELD (R24). -/
def execUpstreamField (n : SlotId) (f : Option UpField) (s : State) : Host.Outcome State Fault Refusal :=
  .next (s.event fun t => t.upstream n f)

end Sys2Proof.Machine
end

