-- ==== Sys2Proof/Machine/Events.lean ====
section
/-! DEFINITION. The events of the reset and ESTOP lines and of the two motion timers. -/

namespace Sys2Proof.Machine

/-- RUN_TIMER_EXPIRY (R108). -/
def execRunTimerExpiry (p : PointId) (s : State) : Host.Outcome State Fault Refusal :=
  .next (s.event fun t => t.runTimerExpiry p)

/-- The allowance of a point has expired, and it is bound and reports motion (R125). -/
def State.allowanceExpiry (s : State) (p : PointId) : State :=
  if (s.point p).lastRun.isSome ∧ s.allowanceOut p ∧ (s.point p).boundSlot.isSome ∧
      (s.sense p = some .up ∨ s.sense p = some .down) then
    s.runaway p
  else s

/-- RUNAWAY_ALLOWANCE_EXPIRY (R125). -/
def execRunawayAllowanceExpiry (p : PointId) (s : State) : Host.Outcome State Fault Refusal :=
  .next (s.event fun t => t.allowanceExpiry p)

/-- ESTOP_ASSERTION (R128): a fall of the line, so nothing when the view is ACTIVE already (log entry 6). -/
def execEstopAssertion (s : State) : Host.Outcome State Fault Refusal :=
  .next (s.event fun t =>
    if t.stopUnit.estop then t
    else ((t.setStopUnit { t.stopUnit with estop := true }).notifyAll .estop .none).tripMains .estop)

/-- ESTOP_RELEASE (R129): a rise of the line, so nothing when the view is INACTIVE already (log entry 6). -/
def execEstopRelease (s : State) : Host.Outcome State Fault Refusal :=
  .next (s.event fun t =>
    if t.stopUnit.estop then (t.setStopUnit { t.stopUnit with estop := false }).notifyAll .estopClear .none else t)

/-- RESETN_ASSERT (R1): the outputs take their reset levels and nothing is acted on; the state takes its reset value at
the release. -/
def execResetnAssert (s : State) : Host.Outcome State Fault Refusal := .next { s with inReset := true }

/-- RESETN_RELEASE (R1): every piece of state takes its reset value, the two views take the levels of their lines
(R127, R137), and the first frame begins. -/
def execResetnRelease (estopLine cueLine : Level) (s : State) : Host.Outcome State Fault Refusal :=
  if s.inReset then
    let s1 := { State.reset with pending := s.pending, cue := Cue.reset cueLine }
    match estopLine with
    | .high => .next s1
    | .low =>
      .next ((s1.setStopUnit { s1.stopUnit with estop := true }).notifyAll .estop .none).flushPrompts
  else .next s

end Sys2Proof.Machine
end

