-- ==== Sys2Proof/Machine/Operands.lean ====
section
/-! DEFINITION. Field coding (Table 10-1, R175): the operands of requests from their bytes, and the bytes of responses. -/

namespace Sys2Proof.Machine

/-! ## Reading operands: none for a byte that holds no value of its coding -/

def pointOf (b : Byte) : Option PointId :=
  if h : 1 ≤ b.toNat ∧ b.toNat ≤ 48 then some ⟨b.toNat - 1, by omega⟩ else none

def groupOf (b : Byte) : Option GroupId :=
  if h : 1 ≤ b.toNat ∧ b.toNat ≤ 16 then some ⟨b.toNat - 1, by omega⟩ else none

def portOf (b : Byte) : Option Port :=
  match b.toNat with
  | 1 => some .a
  | 2 => some .b
  | 3 => some .c
  | _ => none

def yesNoOf (b : Byte) : Option Bool :=
  match b.toNat with
  | 0 => some false
  | 1 => some true
  | _ => none

def epochOf (b : Byte) : Option Epoch :=
  match b.toNat with
  | 8 => some .e8
  | 16 => some .e16
  | _ => none

def acceptModeOf (b : Byte) : Option AcceptMode :=
  match b.toNat with
  | 0 => some .single
  | 1 => some .double
  | _ => none

def alarmModeOf (b : Byte) : Option AlarmMode :=
  match b.toNat with
  | 0 => some .compare
  | 1 => some .latch
  | 2 => some .cross
  | _ => none

/-- The direction of a JOG: UP 0, DOWN 1 (Table 10-3). -/
def jogDirOf (b : Byte) : Option Dir :=
  match b.toNat with
  | 0 => some .up
  | 1 => some .down
  | _ => none

def cueActionOf (b : Byte) : Option CueAction :=
  match b.toNat with
  | 0 => some .moveTo
  | 1 => some .moveBy
  | 2 => some .stop
  | _ => none

def goSourceOf (b : Byte) : Option GoSource :=
  match b.toNat with
  | 0 => some .line
  | 1 => some .console
  | 2 => some .both
  | _ => none

def lineModeOf (b : Byte) : Option LineMode :=
  match b.toNat with
  | 0 => some .rise
  | 1 => some .fall
  | 2 => some .high
  | 3 => some .low
  | _ => none

def polarityOf (b : Byte) : Option Polarity :=
  match b.toNat with
  | 0 => some .activeHigh
  | 1 => some .activeLow
  | _ => none

/-- A byte of masks: bits 0 to 3; a bit above them is no value (log entry 14). -/
def masksOf (b : Byte) : Option (PerKind Bool) :=
  if b.toNat < 16 then some ⟨b.getLsbD 0, b.getLsbD 1, b.getLsbD 2, b.getLsbD 3⟩ else none

/-- A bit of a modes byte: set means EDGE. -/
def modeOfBit (b : Bool) : DetectMode := if b then .edge else .level

/-- A byte of modes (log entry 14). -/
def modesOf (b : Byte) : Option (PerKind DetectMode) :=
  if b.toNat < 16 then
    some ⟨modeOfBit (b.getLsbD 0), modeOfBit (b.getLsbD 1), modeOfBit (b.getLsbD 2), modeOfBit (b.getLsbD 3)⟩
  else none

/-! ## Writing fields -/

def byte (n : Nat) : Byte := BitVec.ofNat 8 n

def nat2 (n : Nat) : List Byte := bytes2 (BitVec.ofNat 16 n)

def int2 (i : Int) : List Byte := bytes2 (BitVec.ofInt 16 i)

def int3 (i : Int) : List Byte := bytes3 (BitVec.ofInt 24 i)

def pointByte (p : PointId) : Byte := byte (p.val + 1)

def groupByte (g : GroupId) : Byte := byte (g.val + 1)

def portByte : Port → Byte
  | .a => 1
  | .b => 2
  | .c => 3

def boolByte (b : Bool) : Byte := if b then 1 else 0

/-- A field that may be absent: its special value then. -/
def orByte {α : Type} (absent : Byte) (f : α → Byte) : Option α → Byte
  | some x => f x
  | none => absent

def optPoint : Option PointId → Byte := orByte 0 pointByte

def optGroup : Option GroupId → Byte := orByte 0 groupByte

def optPort : Option Port → Byte := orByte 0 portByte

def optSlot : Option SlotId → Byte := orByte 0xFF fun n => byte n.val

def optCue : Option Nat → Byte := orByte 0xFF byte

def optIdentity : Option Identity → List Byte
  | some x => bytes4 x
  | none => bytes4 0

/-- A position, 0x800000 when absent. -/
def optPos : Option Int → List Byte
  | some x => int3 x
  | none => bytes3 0x800000

/-- A baseline, 0x8000 when absent. -/
def optKg : Option Int → List Byte
  | some x => int2 x
  | none => bytes2 0x8000

/-- A load value: 0x8000 absent, 0x7FFF OVER. -/
def loadBytes : Load → List Byte
  | .kg v => int2 v
  | .absent => bytes2 0x8000
  | .over => bytes2 0x7FFF

/-- A lead: 0xFFFF when absent (R177). -/
def optLead : Option Int → List Byte
  | some x => int2 x
  | none => bytes2 0xFFFF

/-- Four bits, bit 0 UPPER to bit 3 THERMAL. -/
def kindBits (v : PerKind Bool) : BitVec 4 :=
  BitVec.ofBool v.thermal ++ BitVec.ofBool v.slack ++ BitVec.ofBool v.lower ++ BitVec.ofBool v.upper

/-- A flags byte with the runaway flag in bit 4. -/
def flagsByte (t : StopPart) : Byte := (0 : BitVec 3) ++ BitVec.ofBool t.runaway ++ kindBits t.flags

def masksByte (v : PerKind Bool) : Byte := (0 : BitVec 4) ++ kindBits v

def DetectMode.isEdge : DetectMode → Bool
  | .edge => true
  | .level => false

def modesByte (v : PerKind DetectMode) : Byte :=
  (0 : BitVec 4) ++ kindBits ⟨v.upper.isEdge, v.lower.isEdge, v.slack.isEdge, v.thermal.isEdge⟩

def Sense.code : Sense → BitVec 2
  | .still => 0
  | .up => 1
  | .down => 2

/-- An accepted indication as STOP_READ reports it; 0xFF when absent (Table 10-4). -/
def indicationByte : Option Indication → Byte
  | some v => (0 : BitVec 2) ++ v.sense.code ++ kindBits v.stops
  | none => 0xFF

/-- Five bits, bit 0 OVERLOAD to bit 4 RUNAWAY (Table 10-3, WARN_CONFIG). -/
def causeByte (overload fault hold estop runaway : Bool) : Byte :=
  (0 : BitVec 3) ++ BitVec.ofBool runaway ++ BitVec.ofBool estop ++ BitVec.ofBool hold ++ BitVec.ofBool fault ++
    BitVec.ofBool overload

/-- A set of ports: bit 0 A, 1 B, 2 C. -/
def portSetByte (v : PerPort Bool) : Byte :=
  (0 : BitVec 5) ++ BitVec.ofBool v.c ++ BitVec.ofBool v.b ++ BitVec.ofBool v.a

/-! ## Enumerated codes (R175) -/

def SlotState.code : SlotState → Byte
  | .empty => 0
  | .joining => 1
  | .bound => 2
  | .foreign => 3

def AlarmMode.code : AlarmMode → Byte
  | .compare => 0
  | .latch => 1
  | .cross => 2

def Epoch.code : Epoch → Byte
  | .e8 => 8
  | .e16 => 16

def AcceptMode.code : AcceptMode → Byte
  | .single => 0
  | .double => 1

def GroupState.code : GroupState → Byte
  | .idle => 0
  | .moving => 1
  | .stopping => 2
  | .fault => 3

def MoveKind.code : MoveKind → Byte
  | .target => 0
  | .jog => 1

/-- dir is a signed byte, +1 or -1 (Table 10-1). -/
def Dir.code : Dir → Byte
  | .up => 0x01
  | .down => 0xFF

def MoveOrigin.code : MoveOrigin → Byte
  | .console => 0
  | .cue => 1

def FaultKind.code : FaultKind → Byte
  | .skew => 1
  | .share => 2
  | .noMotion => 3
  | .wrongDirection => 4
  | .overload => 5
  | .underload => 6
  | .stopInput => 7
  | .runaway => 8
  | .nodeLost => 9
  | .estop => 10
  | .mains => 11

/-- A fault cause as its kind and subject point; 0 and 0 when absent. -/
def faultBytes : Option FaultCause → List Byte
  | some c => [c.kind.code, optPoint c.subject]
  | none => [0, 0]

def StopCause.code : StopCause → Byte
  | .stop => 1
  | .cue => 2
  | .enable => 3
  | .link => 4
  | .hold => 5
  | .limit => 6

def MemberState.code : MemberState → Byte
  | .still => 0
  | .run => 1
  | .pause => 2
  | .coast => 3
  | .done => 4
  | .halt => 5

def Mains.code : Mains → Byte
  | .closed => 0
  | .tripped => 1

/-- A last trip cause with its port or point (Table 10-4, STOP_STATUS). -/
def TripCause.bytes : TripCause → List Byte
  | .reset => [0, 0]
  | .estop => [1, 0]
  | .opened p => [2, portByte p]
  | .runaway p => [3, pointByte p]

def CueAction.code : CueAction → Byte
  | .moveTo => 0
  | .moveBy => 1
  | .stop => 2

def CueState.code : CueState → Byte
  | .off => 0
  | .ready => 1
  | .running => 2
  | .stalled => 3
  | .done => 4

def GoSource.code : GoSource → Byte
  | .line => 0
  | .console => 1
  | .both => 2

def LineMode.code : LineMode → Byte
  | .rise => 0
  | .fall => 1
  | .high => 2
  | .low => 3

/-- The line level in the order Table 7-2 lists it: high, low (DEDUCED; log entry 13). -/
def levelCode : Level → Byte
  | .high => 0
  | .low => 1

def Polarity.code : Polarity → Byte
  | .activeHigh => 0
  | .activeLow => 1

def Reason.code : Reason → Byte
  | .empty => 1
  | .unbound => 2
  | .noPosition => 3
  | .noLoad => 4
  | .noCalibration => 5
  | .window => 6
  | .estop => 7
  | .mains => 8
  | .hold => 9
  | .noEnable => 10
  | .overload => 11
  | .underload => 12
  | .stopInput => 13
  | .duty => 14
  | .runaway => 15
  | .pointInUse => 16
  | .goSource => 17

/-- A result other than OK as a response's payload (Table 8-2, 10_frame_and_record_layouts.md 10.4). -/
def Reject.bytes : Reject → List Byte
  | .unknownType => [1]
  | .badLength => [2]
  | .badArgument => [3]
  | .notHolder => [4]
  | .heldElsewhere p => [5, portByte p]
  | .busy => [6]
  | .notReady r p => [7, r.code, optPoint p]
  | .blocked r p => [8, r.code, optPoint p]
  | .pointInUse p g => [8, Reason.code .pointInUse, pointByte p, groupByte g]
  | .full => [9]

/-- A stall result in three bytes: code, reason, point (10_frame_and_record_layouts.md 10.4). -/
def stallBytes : Option Stall → List Byte
  | none => [0, 0, 0]
  | some .stopped => [0x20, 0, 0]
  | some .faulted => [0x21, 0, 0]
  | some (.refused r) => r.bytes.take 3 ++ List.replicate (3 - r.bytes.length) 0

/-- A notice's subject type and subject (Table 10-5). -/
def Subject.bytes : Subject → List Byte
  | .none => [0, 0]
  | .point p => [1, pointByte p]
  | .slot n => [2, byte n.val]
  | .group g => [3, groupByte g]
  | .cue k => [4, byte k]
  | .port p => [5, portByte p]

/-- A notice record as read (Table 10-5). -/
def NoticeRec.bytes (r : NoticeRec) : List Byte := byte r.kind.code :: r.subject.bytes ++ [byte r.count]

/-- A cue entry as CUE_READ reports it (Table 10-4). -/
def CueEntry.bytes (e : CueEntry) : List Byte :=
  [groupByte e.group, e.action.code] ++ int3 e.value ++ [boolByte e.follow]

/-! ## Responses -/

/-- What a request is answered: OK with data, or a result of Table 8-2 other than OK. -/
inductive Reply where
  | ok (data : List Byte)
  | no (r : Reject)
deriving DecidableEq, Repr

/-- The payload of a response: the result code and its data (R163). -/
def Reply.bytes : Reply → List Byte
  | .ok data => 0 :: data
  | .no r => r.bytes

/-- A request's effect with its answer. -/
abbrev Answer := State × Reply

/-- A request that is refused changes nothing. -/
def State.deny (s : State) (r : Reject) : Answer := (s, .no r)

end Sys2Proof.Machine
end

