-- ==== Sys2Proof/Machine/Intake.lean ====
section
/-! DEFINITION. A valid frame at a port: the link, the intake of its request and the queueing of its response (R156, R157,
R162, R163). Every request command is the arrival of a valid frame that carries it (log entry 7). -/

namespace Sys2Proof.Machine

/-- R80: the orphaned groups of a port whose link returns lose their mark, with CLAIM_CHANGED, in group order. -/
def State.clearOrphan (s : State) (p : Port) (g : GroupId) : State :=
  if (s.group g).holder = some p ∧ (s.group g).orphaned then
    (s.setGroup g { s.group g with orphaned := false }).notifyAll .claimChanged (.group g)
  else s

/-- R157: the one ATTENTION of a link return, when the port's notice set is not empty. -/
def State.returnAttention (s : State) (p : Port) : State :=
  if (s.notice p).records = [] then s
  else (s.setNotice p { s.notice p with prompt := false }).queueAttention p

/-- R157: the link comes UP. -/
def State.linkReturn (s : State) (p : Port) : State :=
  let s1 := s.setPort p { s.port p with link := .up }
  (allGroups.foldl (fun t g => t.clearOrphan p g) s1).returnAttention p

/-- R156 steps 1 and 2: a valid frame brings the link UP and starts the link timer anew. -/
def State.frameArrives (s : State) (p : Port) : State :=
  let s1 := if (s.port p).link = .down then s.linkReturn p else s
  s1.setPort p { s1.port p with linkTimer := s1.timer Config.linkTime }

/-- The response to a request: its TYPE with the highest bit set, its TAG, and the answer (R163). -/
def response (typ tag : Byte) (r : Reply) : TxFrame := ⟨typ ||| 0x80, tag, r.bytes⟩

/-- R162, R163: with room in the transmit queue the request is executed and its response queued; otherwise the overrun
counter rises and nothing else happens. -/
def State.intake (s : State) (p : Port) (typ tag : Byte) (body : State → Answer) : State :=
  if (s.port p).tx.length < Config.txDepth then
    (body s).1.queueTx p (response typ tag (body s).2)
  else s.setPort p { s.port p with overruns := satSucc (s.port p).overruns }

/-- A valid frame that carries a request arrives (R156). -/
def State.request (s : State) (p : Port) (typ tag : Byte) (body : State → Answer) : State :=
  s.event fun t => (t.frameArrives p).intake p typ tag body

end Sys2Proof.Machine
end

