-- ==== Sys2Proof/Machine/Cues.lean ====
section
/-! DEFINITION. The Cue Engine's requests and line events (chapter 7). -/

namespace Sys2Proof.Machine

/-! ## The GO (R143 to R146) -/

/-- The GO outcomes of CUE_GO (Table 10-6). -/
inductive GoOutcome where
  | fired | stalled | early | ignored
deriving DecidableEq, Repr

def GoOutcome.code : GoOutcome → Byte
  | .fired => 0
  | .stalled => 1
  | .early => 2
  | .ignored => 3

/-- The entry at the pointer is fired by a GO. A fire whose START ends at once is FIRED, also when a follow it leads to is
refused in the same event (DESIGN CHOICE; log entry 39). -/
def State.goFire (s : State) : State × GoOutcome :=
  match s.fire with
  | (s1, .refused) => (s1, .stalled)
  | (s1, .fired) => (s1, .fired)
  | (s1, .atOnce) => (s1, .fired)

/-- A GO in RUNNING is ignored with CUE_EARLY (R146). -/
def State.goEarly (s : State) : State := s.notifyOwner .cueEarly (cueSubject s.cue.firedIndex)

/-- Table 7-4 for a console GO. -/
def State.consoleGo (s : State) : State × GoOutcome :=
  match s.cue.state with
  | .off => (s, .ignored)
  | .ready => s.goFire
  | .running => (s.goEarly, .early)
  | .stalled =>
    if s.cue.pointer < s.cue.list.length then s.goFire else (s.cueReadyOrEnd, .ignored)
  | .done => (s, .ignored)

/-- Table 7-4 for a line GO, which starts the re-arm timer first (R143). -/
def State.lineGo (s : State) : State :=
  let s1 := s.setCue { s.cue with rearm := s.timer Config.rearmTime }
  match s.cue.state with
  | .ready => s1.goFire.1
  | .running => s1.goEarly
  | .off => s1
  | .stalled => s1
  | .done => s1

/-- A GO may come from the line. -/
def GoSource.fromLine : GoSource → Bool
  | .line => true
  | .both => true
  | .console => false

/-- A GO may come from the console. -/
def GoSource.fromConsole : GoSource → Bool
  | .console => true
  | .both => true
  | .line => false

/-- The changes of level that a line mode takes as a GO (R143). -/
def LineMode.calls : LineMode → Level → Bool
  | .rise, .high => true
  | .high, .high => true
  | .fall, .low => true
  | .low, .low => true
  | .rise, .low => false
  | .high, .low => false
  | .fall, .high => false
  | .low, .high => false

/-- The line stands at the active level of a level mode (R144). -/
def LineMode.holds : LineMode → Level → Bool
  | .high, .high => true
  | .low, .low => true
  | .high, .low => false
  | .low, .high => false
  | .rise, _ => false
  | .fall, _ => false

/-- R143: the CUE line changes to a level. -/
def State.lineChange (s : State) (v : Level) : State :=
  if s.cue.level = v then s
  else
    let s1 := s.setCue { s.cue with level := v }
    if s.cue.source.fromLine ∧ s.cue.rearm = none ∧ s.cue.mode.calls v then s1.lineGo else s1

/-- R144: the re-arm timer expires, once it is due. -/
def State.rearmExpiry (s : State) : State :=
  if s.due s.cue.rearm then
    let s1 := s.setCue { s.cue with rearm := none }
    if s.cue.source.fromLine ∧ s.cue.mode.holds s.cue.level then s1.lineGo else s1
  else s

/-- CUE_LINE_CHANGE (R143). -/
def execCueLineChange (v : Level) (s : State) : Host.Outcome State Fault Refusal :=
  .next (s.event fun t => t.lineChange v)

/-- REARM_TIMER_EXPIRY (R144). -/
def execRearmTimerExpiry (s : State) : Host.Outcome State Fault Refusal :=
  .next (s.event fun t => t.rearmExpiry)

/-! ## Requests -/

/-- The requests accepted from the owner alone are refused NOT_HOLDER to any other port. -/
def State.ownerOnly (s : State) (q : Port) (k : Answer) : Answer :=
  if s.cue.owner = some q then k else s.deny .notHolder

/-- The value lies in the range of its action; a STOP entry's is not checked (R138). -/
def cueValueOk : CueAction → Int → Bool
  | .moveTo, v => decide (-1000 ≤ v) && decide (v ≤ 66535)
  | .moveBy, v => decide (-66535 ≤ v) && decide (v ≤ 66535)
  | .stop, _ => true

/-- The value an entry stores: 0 for STOP (R138). -/
def cueValue : CueAction → Int → Int
  | .moveTo, v => v
  | .moveBy, v => v
  | .stop, _ => 0

/-- R138: entry i is replaced, or appended when i is the count. -/
def writeEntry (l : List CueEntry) (i : Nat) (e : CueEntry) : List CueEntry :=
  if i < l.length then l.set i e else l ++ [e]

/-- CUE_WRITE (R138). -/
def reqCueWrite (q : Port) (index group action : Byte) (value : Word24) (follow : Byte) (s : State) : Answer :=
  s.ownerOnly q
    (if s.cue.state = .running then s.deny .busy
    else
      match groupOf group, cueActionOf action, yesNoOf follow with
      | some g, some a, some f =>
        if index.toNat ≤ 63 ∧ index.toNat ≤ s.cue.list.length ∧ cueValueOk a value.toInt then
          let l := writeEntry s.cue.list index.toNat ⟨g, a, cueValue a value.toInt, f⟩
          (s.setCue { s.cue with list := l }, .ok [byte l.length])
        else s.deny .badArgument
      | _, _, _ => s.deny .badArgument)

/-- CUE_CLEAR (R139). -/
def reqCueClear (q : Port) (s : State) : Answer :=
  s.ownerOnly q
    (if s.cue.state = .running then s.deny .busy
    else
      (s.setCue { s.cue with list := [], pointer := 0, state := .off, firedIndex := none, stall := none }, .ok []))

/-- CUE_OWN (R140). -/
def reqCueOwn (q : Port) (s : State) : Answer :=
  match s.cue.owner with
  | none => (s.setCue { s.cue with owner := some q }, .ok [])
  | some o =>
    if o = q then (s, .ok [])
    else match (s.port o).link with
      | .down => (s.setCue { s.cue with owner := some q }, .ok [])
      | .up => s.deny (.heldElsewhere o)

/-- CUE_DISOWN (R140). -/
def reqCueDisown (q : Port) (s : State) : Answer :=
  s.ownerOnly q (s.setCue { s.cue with owner := none, state := .off, firedGroup := none }, .ok [])

/-- CUE_CONFIG (R141). -/
def reqCueConfig (q : Port) (source mode : Byte) (s : State) : Answer :=
  s.ownerOnly q
    (match goSourceOf source, lineModeOf mode with
    | some c, some m =>
      (s.setCue { s.cue with source := c, mode := m, rearm := none }, .ok [c.code, m.code])
    | _, _ => s.deny .badArgument)

/-- READY below the count and DONE at it, without notice (R142). -/
def Cue.armed (c : Cue) (pointer : Nat) : Cue :=
  { c with
    pointer := pointer
    state := if pointer < c.list.length then .ready else .done
    stall := none }

/-- CUE_ARM (R142). -/
def reqCueArm (q : Port) (start : Option Byte) (s : State) : Answer :=
  s.ownerOnly q
    (if s.cue.state = .running then s.deny .busy
    else
      let j := match start with
        | some b => b.toNat
        | none => s.cue.pointer
      if start.isSome ∧ s.cue.list.length < j then s.deny .badArgument
      else
        let c := s.cue.armed j
        (s.setCue c, .ok [c.state.code, byte c.pointer]))

/-- CUE_OFF (R142). -/
def reqCueOff (q : Port) (s : State) : Answer :=
  s.ownerOnly q (s.setCue { s.cue with state := .off, firedGroup := none }, .ok [])

/-- CUE_GO (R145). -/
def reqCueGo (q : Port) (s : State) : Answer :=
  s.ownerOnly q
    (if s.cue.source.fromConsole then
      let r := s.consoleGo
      (r.1, .ok (r.2.code :: optCue r.1.cue.firedIndex :: stallBytes r.1.cue.stall ++
        [r.1.cue.state.code, byte r.1.cue.pointer]))
    else s.deny (.blocked .goSource none))

/-- CUE_SKIP (R149). -/
def reqCueSkip (q : Port) (s : State) : Answer :=
  s.ownerOnly q
    (if s.cue.state = .ready ∨ s.cue.state = .stalled then
      let k := if s.cue.pointer < s.cue.list.length then s.cue.pointer + 1 else s.cue.pointer
      let s1 := (s.setCue { s.cue with pointer := k, stall := none }).cueReadyOrEnd
      (s1, .ok [s1.cue.state.code, byte s1.cue.pointer])
    else s.deny .busy)

/-- The engine part of CUE_READ (Table 10-4). -/
def Cue.bytes (c : Cue) : List Byte :=
  [c.state.code, optPort c.owner, c.source.code, c.mode.code, levelCode c.level, boolByte c.rearm.isSome,
    byte c.list.length, byte c.pointer, optGroup c.firedGroup, optCue c.firedIndex] ++ stallBytes c.stall

/-- CUE_READ (R152). -/
def reqCueRead (first count : Byte) (s : State) : Answer :=
  if 6 < count.toNat ∨ (count.toNat ≠ 0 ∧ s.cue.list.length < first.toNat + count.toNat) then s.deny .badArgument
  else
    (s, .ok (s.cue.bytes ++ ((s.cue.list.drop first.toNat).take count.toNat).flatMap CueEntry.bytes))

/-! ## The request commands -/

/-- CUE_WRITE (R138). -/
def execCueWrite (q : Port) (tag index group action : Byte) (value : Word24) (follow : Byte) (s : State) :
    Host.Outcome State Fault Refusal :=
  .next (s.request q 0x60 tag (reqCueWrite q index group action value follow))

/-- CUE_CLEAR (R139). -/
def execCueClear (q : Port) (tag : Byte) (s : State) : Host.Outcome State Fault Refusal :=
  .next (s.request q 0x61 tag (reqCueClear q))

/-- CUE_OWN (R140). -/
def execCueOwn (q : Port) (tag : Byte) (s : State) : Host.Outcome State Fault Refusal :=
  .next (s.request q 0x62 tag (reqCueOwn q))

/-- CUE_DISOWN (R140). -/
def execCueDisown (q : Port) (tag : Byte) (s : State) : Host.Outcome State Fault Refusal :=
  .next (s.request q 0x63 tag (reqCueDisown q))

/-- CUE_CONFIG (R141). -/
def execCueConfig (q : Port) (tag source mode : Byte) (s : State) : Host.Outcome State Fault Refusal :=
  .next (s.request q 0x64 tag (reqCueConfig q source mode))

/-- CUE_ARM (R142). -/
def execCueArm (q : Port) (tag : Byte) (start : Option Byte) (s : State) : Host.Outcome State Fault Refusal :=
  .next (s.request q 0x65 tag (reqCueArm q start))

/-- CUE_OFF (R142). -/
def execCueOff (q : Port) (tag : Byte) (s : State) : Host.Outcome State Fault Refusal :=
  .next (s.request q 0x66 tag (reqCueOff q))

/-- CUE_GO (R145). -/
def execCueGo (q : Port) (tag : Byte) (s : State) : Host.Outcome State Fault Refusal :=
  .next (s.request q 0x67 tag (reqCueGo q))

/-- CUE_SKIP (R149). -/
def execCueSkip (q : Port) (tag : Byte) (s : State) : Host.Outcome State Fault Refusal :=
  .next (s.request q 0x68 tag (reqCueSkip q))

/-- CUE_READ (R152). -/
def execCueRead (q : Port) (tag first count : Byte) (s : State) : Host.Outcome State Fault Refusal :=
  .next (s.request q 0x69 tag (reqCueRead first count))

end Sys2Proof.Machine
end

