-- ==== Sys2Proof/Machine/Directory.lean ====
section
/-! DEFINITION. The requests of the Point Directory and the Hoist Bus Controller: PATCH_POINT, UNPATCH, POINT_READ,
SLOT_READ, BUS_CONFIG (R14 to R20, R33). -/

namespace Sys2Proof.Machine

/-- A point's directory fields in a response (Table 10-6). -/
def PointRec.directoryBytes (r : PointRec) : List Byte :=
  boolByte r.identity.isSome :: optIdentity r.identity ++ int3 r.softMin ++ int3 r.softMax ++ int2 r.trim ++
    [optSlot r.boundSlot, optSlot r.lastSlot]

/-- The answer that carries a point's directory fields as they stand. -/
def State.directoryReply (s : State) (p : PointId) : Answer := (s, .ok (s.point p).directoryBytes)

/-- R16 steps 1 and 2, as R17 uses them too: p leaves its slot, which becomes FOREIGN, and its calibration copy is
dropped. An active job that concerns p runs on and is discarded. -/
def State.detach (s : State) (p : PointId) : State :=
  let s1 := match (s.point p).boundSlot with
    | some n =>
      ((((s.setSlot n (s.slot n).madeForeign).unbindPoint p).notifyAll .nodeForeign (.slot n)).dropJoin n).discardJob p
    | none => s
  s1.setLoad p (s1.point p).load.dropCal

/-- The lowest-numbered FOREIGN slot that carries an identity (R16 step 4). -/
def State.foreignSlot (s : State) (x : Identity) : Option SlotId :=
  allSlots.find? fun n => (s.slot n).state == .foreign && (s.slot n).identity == some x

/-- R16: p is given an identity it does not hold. -/
def State.repatch (s : State) (p : PointId) (x : Identity) (lo hi trim : Int) : State :=
  let s1 := s.detach p
  let s2 := s1.setPoint p { s1.point p with identity := some x, softMin := lo, softMax := hi, trim := trim }
  match s2.foreignSlot x with
  | some n =>
    let s3 := s2.bind p n
    (s3.setJoinList (s3.service.joinList ++ [⟨n, .calibration⟩])).startJob
  | none => s2

/-- R14 check 4: another point holds the identity. -/
def State.identityTaken (s : State) (p : PointId) (x : Identity) : Bool :=
  allPoints.any fun q => !(q == p) && (s.point q).identity == some x

/-- PATCH_POINT (R14 to R16). -/
def reqPatchPoint (point : Byte) (x : Identity) (softMin softMax : Word24) (trim : Word16) (s : State) : Answer :=
  match pointOf point with
  | none => s.deny .badArgument
  | some p =>
    let lo := clamp (-1000) 66535 softMin.toInt
    let hi := clamp (-1000) 66535 softMax.toInt
    let tr := clamp (-1000) 1000 trim.toInt
    if x = 0x00000000 ∨ x = 0xFFFFFFFF then s.deny .badArgument
    else if hi < lo + 100 then s.deny .badArgument
    else if s.identityTaken p x then s.deny .badArgument
    else if s.pointActive p then s.deny .busy
    else if (s.point p).identity = some x then
      (s.setPoint p { s.point p with softMin := lo, softMax := hi, trim := tr }).directoryReply p
    else (s.repatch p x lo hi tr).directoryReply p

/-- UNPATCH (R17). -/
def reqUnpatch (point : Byte) (s : State) : Answer :=
  match pointOf point with
  | none => s.deny .badArgument
  | some p =>
    if s.pointActive p then s.deny .busy
    else if (s.point p).identity.isNone then s.directoryReply p
    else
      let s1 := s.detach p
      (s1.setPoint p { s1.point p with identity := none }).directoryReply p

/-- POINT_READ (R19). -/
def reqPointRead (point : Byte) (s : State) : Answer :=
  match pointOf point with
  | none => s.deny .badArgument
  | some p =>
    (s, .ok ((s.point p).directoryBytes ++ optPos (s.pos p) ++ loadBytes (s.point p).load.value ++
      [optGroup (s.point p).group, flagsByte (s.point p).stop]))

/-- One entry of a SLOT_READ response (Table 10-4). -/
def SlotRec.bytes (r : SlotRec) : List Byte :=
  r.state.code :: optIdentity r.identity ++ [optPoint r.point, byte r.presence, byte r.miss]

/-- SLOT_READ (R20). -/
def reqSlotRead (first count : Byte) (s : State) : Answer :=
  if first.toNat ≤ 47 ∧ 1 ≤ count.toNat ∧ count.toNat ≤ 7 ∧ first.toNat + count.toNat ≤ 48 then
    (s, .ok (((allSlots.drop first.toNat).take count.toNat).flatMap fun n => (s.slot n).bytes))
  else s.deny .badArgument

/-- R33: what an accepted BUS_CONFIG does. -/
def State.configureBus (s : State) (e : Epoch) (m : AcceptMode) : State :=
  { s with
    bus := { s.bus with epoch := e, mode := m, framePos := 0, restart := true }
    points := s.points.map fun r => { r with load := r.load.restart }
    slots := s.slots.map fun r => { r with candidate := none } }

/-- A group is MOVING or STOPPING. -/
def State.anyActive (s : State) : Bool := allGroups.any fun g => (s.group g).state.active

/-- BUS_CONFIG (R33). -/
def reqBusConfig (epoch mode : Byte) (s : State) : Answer :=
  match epochOf epoch, acceptModeOf mode with
  | some e, some m =>
    if s.anyActive then s.deny .busy else (s.configureBus e m, .ok [e.code, m.code])
  | _, _ => s.deny .badArgument

/-! ## The commands -/

/-- PATCH_POINT (R14). -/
def execPatchPoint (q : Port) (tag point : Byte) (x : Identity) (softMin softMax : Word24) (trim : Word16) (s : State) :
    Host.Outcome State Fault Refusal :=
  .next (s.request q 0x10 tag (reqPatchPoint point x softMin softMax trim))

/-- UNPATCH (R17). -/
def execUnpatch (q : Port) (tag point : Byte) (s : State) : Host.Outcome State Fault Refusal :=
  .next (s.request q 0x11 tag (reqUnpatch point))

/-- POINT_READ (R19). -/
def execPointRead (q : Port) (tag point : Byte) (s : State) : Host.Outcome State Fault Refusal :=
  .next (s.request q 0x12 tag (reqPointRead point))

/-- SLOT_READ (R20). -/
def execSlotRead (q : Port) (tag first count : Byte) (s : State) : Host.Outcome State Fault Refusal :=
  .next (s.request q 0x13 tag (reqSlotRead first count))

/-- BUS_CONFIG (R33). -/
def execBusConfig (q : Port) (tag epoch mode : Byte) (s : State) : Host.Outcome State Fault Refusal :=
  .next (s.request q 0x14 tag (reqBusConfig epoch mode))

end Sys2Proof.Machine
end

