-- ==== Sys2Proof/Machine/Groups.lean ====
section
/-! DEFINITION. The requests of the Group Table (chapter 4): SET_MEMBERS, CLAIM, RELEASE, TAKEOVER, SET_BANDS,
GROUP_READ. -/

namespace Sys2Proof.Machine

/-- The points of a SET_MEMBERS list; none when an entry is no point. -/
def pointsOf : List Byte → Option (List PointId)
  | [] => some []
  | b :: rest =>
    match pointOf b, pointsOf rest with
    | some p, some ps => some (p :: ps)
    | _, _ => none

/-- A member record in rest form (R86). -/
def restMember (p : PointId) : Member :=
  { point := p, state := .still, startPos := none, target := none, baseline := none, releasePos := none,
    releasedMoving := false, runTimer := none, settle := 0 }

/-- The point is in the group's member list. -/
def GroupRec.has (r : GroupRec) (p : PointId) : Bool := r.members.any fun m => m.point == p

/-- R72: the group's list and the points' group fields change together. -/
def State.replaceMembers (s : State) (g : GroupId) (ps : List PointId) : State :=
  let old := s.group g
  { s.setGroup g { old with members := ps.map restMember } with
    points := Vector.ofFn fun p =>
      let r := s.point p
      if ps.contains p then { r with group := some g }
      else if old.has p then { r with group := none }
      else r }

/-- The first listed point that belongs to a group other than g, with that group (R71 check 5). -/
def State.inUse (s : State) (g : GroupId) : List PointId → Option (PointId × GroupId)
  | [] => none
  | p :: rest =>
    match (s.point p).group with
    | some h => if h = g then s.inUse g rest else some (p, h)
    | none => s.inUse g rest

/-- SET_MEMBERS (R71, R72). A list too long for the request's LEN is refused BAD_LENGTH (R162). -/
def reqSetMembers (q : Port) (group : Byte) (points : List Byte) (s : State) : Answer :=
  if Config.maxMembers < points.length then s.deny .badLength
  else
    match groupOf group, pointsOf points with
    | some g, some ps =>
      if ¬ ps.Nodup then s.deny .badArgument
      else if (s.group g).holder ≠ some q then s.deny .notHolder
      else if (s.group g).state ≠ .idle then s.deny .busy
      else match s.inUse g ps with
        | some (p, h) => s.deny (.pointInUse p h)
        | none => (s.replaceMembers g ps, .ok (byte ps.length :: ps.map pointByte))
    | _, _ => s.deny .badArgument

/-- A port becomes a group's holder, and CLAIM_CHANGED goes to all ports (R75, R77). -/
def State.giveClaim (s : State) (q : Port) (g : GroupId) : State :=
  (s.setGroup g { s.group g with holder := some q, orphaned := false }).notifyAll .claimChanged (.group g)

/-- R75 when the requester holds the group: an orphaned mark ends with CLAIM_CHANGED; otherwise nothing changes. -/
def State.renewClaim (s : State) (q : Port) (g : GroupId) : State :=
  if (s.group g).orphaned then s.giveClaim q g else s

/-- CLAIM (R75). -/
def reqClaim (q : Port) (group : Byte) (s : State) : Answer :=
  match groupOf group with
  | none => s.deny .badArgument
  | some g =>
    match (s.group g).holder with
    | none => (s.giveClaim q g, .ok [])
    | some h => if h = q then (s.renewClaim q g, .ok []) else s.deny (.heldElsewhere h)

/-- RELEASE (R76). -/
def reqRelease (q : Port) (group : Byte) (s : State) : Answer :=
  match groupOf group with
  | none => s.deny .badArgument
  | some g =>
    if (s.group g).holder ≠ some q then s.deny .notHolder
    else if (s.group g).state.active then s.deny .busy
    else
      ((s.setGroup g { s.group g with holder := none, orphaned := false }).notifyAll .claimChanged (.group g), .ok [])

/-- TAKEOVER (R77). -/
def reqTakeover (q : Port) (group : Byte) (s : State) : Answer :=
  match groupOf group with
  | none => s.deny .badArgument
  | some g =>
    match (s.group g).holder with
    | none => (s.giveClaim q g, .ok [])
    | some h =>
      if h = q then (s.renewClaim q g, .ok [])
      else if ¬ (s.group g).orphaned then s.deny (.heldElsewhere h)
      else if (s.group g).state.active then s.deny .busy
      else (s.giveClaim q g, .ok [])

/-- R83: the bands clamped in order. -/
def clampBands (pause resume trip share tolerance : Nat) : Bands :=
  let p := max 2 (min pause 100)
  { pause := p
    resume := min resume (p - 1)
    trip := max (p + 10) (min trip 500)
    share := max 5 (min share 50)
    tolerance := max 5 (min tolerance 200) }

/-- SET_BANDS (R83). -/
def reqSetBands (q : Port) (group : Byte) (pause resume trip share tolerance : Word16) (s : State) : Answer :=
  match groupOf group with
  | none => s.deny .badArgument
  | some g =>
    if (s.group g).holder ≠ some q then s.deny .notHolder
    else if (s.group g).state = .moving then s.deny .busy
    else
      let b := clampBands pause.toNat resume.toNat trip.toNat share.toNat tolerance.toNat
      (s.setGroup g { s.group g with bands := b },
        .ok (nat2 b.pause ++ nat2 b.resume ++ nat2 b.trip ++ nat2 b.share ++ nat2 b.tolerance))

/-- A group as GROUP_READ reports it (Table 10-4). -/
def GroupRec.bytes (r : GroupRec) : List Byte :=
  [optPort r.holder, boolByte r.orphaned, byte r.bands.pause, byte r.bands.resume] ++ nat2 r.bands.trip ++
    [byte r.bands.share, byte r.bands.tolerance, r.state.code, r.kind.code, r.dir.code] ++ faultBytes r.fault ++
    byte r.members.length :: r.members.map fun m => pointByte m.point

/-- GROUP_READ (R85). -/
def reqGroupRead (group : Byte) (s : State) : Answer :=
  match groupOf group with
  | none => s.deny .badArgument
  | some g => (s, .ok (s.group g).bytes)

/-! ## The commands -/

/-- SET_MEMBERS (R71). -/
def execSetMembers (q : Port) (tag group : Byte) (points : List Byte) (s : State) : Host.Outcome State Fault Refusal :=
  .next (s.request q 0x30 tag (reqSetMembers q group points))

/-- CLAIM (R75). -/
def execClaim (q : Port) (tag group : Byte) (s : State) : Host.Outcome State Fault Refusal :=
  .next (s.request q 0x31 tag (reqClaim q group))

/-- RELEASE (R76). -/
def execRelease (q : Port) (tag group : Byte) (s : State) : Host.Outcome State Fault Refusal :=
  .next (s.request q 0x32 tag (reqRelease q group))

/-- TAKEOVER (R77). -/
def execTakeover (q : Port) (tag group : Byte) (s : State) : Host.Outcome State Fault Refusal :=
  .next (s.request q 0x33 tag (reqTakeover q group))

/-- SET_BANDS (R83). -/
def execSetBands (q : Port) (tag group : Byte) (pause resume trip share tolerance : Word16) (s : State) :
    Host.Outcome State Fault Refusal :=
  .next (s.request q 0x34 tag (reqSetBands q group pause resume trip share tolerance))

/-- GROUP_READ (R85). -/
def execGroupRead (q : Port) (tag group : Byte) (s : State) : Host.Outcome State Fault Refusal :=
  .next (s.request q 0x35 tag (reqGroupRead group))

end Sys2Proof.Machine
end

