-- ==== Sys2Proof/Machine/Loads.lean ====
section
/-! DEFINITION. The requests of the Load Unit (R54 to R56, R61, R62, R66, R67). -/

namespace Sys2Proof.Machine

/-- The checks TARE, CAL_WRITE and CAL_READ share after their arguments: not moving, then bound (R54 to R56). -/
def State.serviceable (s : State) (p : PointId) (k : SlotId → Answer) : Answer :=
  if s.pointActive p then s.deny .busy
  else match (s.point p).boundSlot with
    | none => s.deny (.notReady .unbound (some p))
    | some n => k n

/-- R42: the entry is queued and the request answered OK with data, or the request is refused FULL. -/
def State.queueJob (s : State) (e : PortEntry) (data : List Byte) : Answer :=
  if s.queueFull e.port then s.deny .full else (s.queueEntry e, .ok data)

/-- R54: the new zero of a window. -/
def tareZero (w : List Code) : Nat := (codeSum w + 4) / 8

/-- R54 check 5: the window holds 8 codes and none of them is 4095. -/
def LoadPart.tareable (l : LoadPart) : Bool :=
  decide (l.window.length = Config.windowSize) && l.window.all fun r => !(r == 4095)

/-- TARE (R54). -/
def reqTare (q : Port) (point : Byte) (s : State) : Answer :=
  match pointOf point with
  | none => s.deny .badArgument
  | some p =>
    s.serviceable p fun n =>
      match (s.point p).load.cal with
      | none => s.deny (.notReady .noCalibration (some p))
      | some c =>
        if (s.point p).load.tareable then
          let z := tareZero (s.point p).load.window
          s.queueJob ⟨q, p, n, some { c with zero := z }⟩ (nat2 z)
        else s.deny (.notReady .window (some p))

/-- CAL_WRITE (R55). -/
def reqCalWrite (q : Port) (point : Byte) (zero span wll : Word16) (s : State) : Answer :=
  let c : Cal := ⟨zero.toNat, span.toNat, wll.toNat⟩
  match pointOf point with
  | none => s.deny .badArgument
  | some p =>
    if c.inRange then s.serviceable p fun n => s.queueJob ⟨q, p, n, some c⟩ []
    else s.deny .badArgument

/-- CAL_READ (R56). -/
def reqCalRead (q : Port) (point : Byte) (s : State) : Answer :=
  match pointOf point with
  | none => s.deny .badArgument
  | some p => s.serviceable p fun n => s.queueJob ⟨q, p, n, none⟩ []

/-- An ACTIVE condition whose exit has been seen ends (R61). -/
def Condition.cleared (c : Condition) : Condition := if c.active ∧ c.exitSeen then ⟨false, false⟩ else c

/-- The overload condition of a point is ended if its exit has been seen, with a notice when asked for (R61, R62). -/
def State.clearOverload (s : State) (p : PointId) (notify : Bool) : State :=
  let l := (s.point p).load
  let s1 := s.setLoad p { l with overload := l.overload.cleared }
  if l.overload.active ∧ l.overload.exitSeen ∧ notify then s1.notifyAll .overloadCleared (.point p) else s1

/-- The same for the underload condition. -/
def State.clearUnderload (s : State) (p : PointId) (notify : Bool) : State :=
  let l := (s.point p).load
  let s1 := s.setLoad p { l with underload := l.underload.cleared }
  if l.underload.active ∧ l.underload.exitSeen ∧ notify then s1.notifyAll .underloadCleared (.point p) else s1

/-- CLEAR_LOAD_ALARM (R61). Where it ends both conditions, OVERLOAD_CLEARED is recorded first (DESIGN CHOICE; log entry
40). -/
def reqClearLoadAlarm (point : Byte) (s : State) : Answer :=
  match pointOf point with
  | none => s.deny .badArgument
  | some p =>
    let s1 := (s.clearOverload p true).clearUnderload p true
    (s1, .ok [boolByte (s1.point p).load.overload.active, boolByte (s1.point p).load.underload.active])

/-- R62: the stored limits, clamped in order. -/
def LoadPart.limited (l : LoadPart) (high low hyst : Nat) (mode : AlarmMode) : LoadPart :=
  let top := match l.cal with
    | some c => c.wll
    | none => 20000
  let h := max 50 (min high top)
  { l with high := h, low := min low (h - 50), hyst := max 5 (min hyst 500), alarm := mode }

/-- R60: a low_kg set to 0 ends an ACTIVE underload at once, with a notice in CROSS. The mode is the one the same request
stores (DESIGN CHOICE; log entry 38). -/
def State.lowOff (s : State) (p : PointId) : State :=
  let l := (s.point p).load
  if l.low = 0 ∧ l.underload.active then
    let s1 := s.setLoad p { l with underload := ⟨false, false⟩ }
    if l.alarm = .cross then s1.notifyAll .underloadCleared (.point p) else s1
  else s

/-- R62: a change of mode from LATCH ends the conditions whose exit has been seen. -/
def State.leaveLatch (s : State) (p : PointId) (before mode : AlarmMode) : State :=
  if before = .latch ∧ mode ≠ .latch then
    (s.clearOverload p (mode == .cross)).clearUnderload p (mode == .cross)
  else s

/-- SET_LOAD_LIMITS (R62). -/
def reqSetLoadLimits (point : Byte) (high low hyst : Word16) (mode : Byte) (s : State) : Answer :=
  match pointOf point, alarmModeOf mode with
  | some p, some m =>
    let l := (s.point p).load
    let l1 := l.limited high.toNat low.toNat hyst.toNat m
    let s1 := (((s.setLoad p l1).leaveLatch p l.alarm m).lowOff p).evaluateLoads p
    (s1, .ok (nat2 l1.high ++ nat2 l1.low ++ nat2 l1.hyst ++ [m.code]))
  | _, _ => s.deny .badArgument

/-- SET_DUTY_LIMIT (R66). -/
def reqSetDutyLimit (point : Byte) (limit : Word16) (s : State) : Answer :=
  match pointOf point with
  | none => s.deny .badArgument
  | some p =>
    let l := (s.point p).load
    let s1 := (s.setLoad p { l with dutyLimit := max 300 (min limit.toNat 60000) }).evaluateDuty p
    (s1, .ok (nat2 (s1.point p).load.dutyLimit ++ nat2 (s1.point p).load.duty ++ [boolByte (s1.point p).load.dutyHot]))

/-- The marks byte of LOAD_READ (Table 10-4). -/
def LoadPart.marksByte (l : LoadPart) : Byte :=
  BitVec.ofBool l.dutyHot ++ BitVec.ofBool l.underload.exitSeen ++ BitVec.ofBool l.underload.active ++
    BitVec.ofBool l.overload.exitSeen ++ BitVec.ofBool l.overload.active ++ BitVec.ofBool l.discardNext ++
    BitVec.ofBool l.calFault ++ BitVec.ofBool l.cal.isSome

/-- The three values of a calibration copy; 0 each when it is absent (R67). -/
def calBytes : Option Cal → List Byte
  | some c => nat2 c.zero ++ nat2 c.span ++ nat2 c.wll
  | none => [0, 0, 0, 0, 0, 0]

/-- A load part as LOAD_READ reports it (Table 10-4). -/
def LoadPart.bytes (l : LoadPart) : List Byte :=
  l.marksByte :: calBytes l.cal ++ [byte l.window.length] ++ loadBytes l.value ++ nat2 l.high ++ nat2 l.low ++
    nat2 l.hyst ++ [l.alarm.code] ++ nat2 l.duty ++ nat2 l.dutyLimit

/-- LOAD_READ (R67). -/
def reqLoadRead (point : Byte) (s : State) : Answer :=
  match pointOf point with
  | none => s.deny .badArgument
  | some p => (s, .ok (s.point p).load.bytes)

/-! ## The commands -/

/-- TARE (R54). -/
def execTare (q : Port) (tag point : Byte) (s : State) : Host.Outcome State Fault Refusal :=
  .next (s.request q 0x20 tag (reqTare q point))

/-- CAL_WRITE (R55). -/
def execCalWrite (q : Port) (tag point : Byte) (zero span wll : Word16) (s : State) : Host.Outcome State Fault Refusal :=
  .next (s.request q 0x21 tag (reqCalWrite q point zero span wll))

/-- CAL_READ (R56). -/
def execCalRead (q : Port) (tag point : Byte) (s : State) : Host.Outcome State Fault Refusal :=
  .next (s.request q 0x22 tag (reqCalRead q point))

/-- CLEAR_LOAD_ALARM (R61). -/
def execClearLoadAlarm (q : Port) (tag point : Byte) (s : State) : Host.Outcome State Fault Refusal :=
  .next (s.request q 0x23 tag (reqClearLoadAlarm point))

/-- SET_LOAD_LIMITS (R62). -/
def execSetLoadLimits (q : Port) (tag point : Byte) (high low hyst : Word16) (mode : Byte) (s : State) :
    Host.Outcome State Fault Refusal :=
  .next (s.request q 0x24 tag (reqSetLoadLimits point high low hyst mode))

/-- SET_DUTY_LIMIT (R66). -/
def execSetDutyLimit (q : Port) (tag point : Byte) (limit : Word16) (s : State) : Host.Outcome State Fault Refusal :=
  .next (s.request q 0x25 tag (reqSetDutyLimit point limit))

/-- LOAD_READ (R67). -/
def execLoadRead (q : Port) (tag point : Byte) (s : State) : Host.Outcome State Fault Refusal :=
  .next (s.request q 0x26 tag (reqLoadRead point))

end Sys2Proof.Machine
end

