-- ==== Sys2Proof/Machine/Moves.lean ====
section
/-! DEFINITION. The requests of the Motion Engine (chapter 5): MOVE_TO, MOVE_BY, JOG, STOP, ACK_FAULT, SET_STOP_LEAD,
MOTION_READ. -/

namespace Sys2Proof.Machine

/-- A START from a port, with its response: the applied travel and dir (R93; log entry 19). -/
def State.startReply (s : State) (q : Port) (g : GroupId) (m : Move) : Answer :=
  match s.start (some q) .console g m with
  | (s1, .refused r) => (s1, .no r)
  | (s1, .atOnce) => (s1, .ok (int3 0 ++ [(s1.group g).dir.code]))
  | (s1, .moving) => (s1, .ok (int3 (s1.group g).applied ++ [(s1.group g).dir.code]))

/-- MOVE_TO (R89). -/
def reqMoveTo (q : Port) (group : Byte) (height : Word24) (s : State) : Answer :=
  match groupOf group with
  | none => s.deny .badArgument
  | some g =>
    if -1000 ≤ height.toInt ∧ height.toInt ≤ 66535 then s.startReply q g (.height height.toInt)
    else s.deny .badArgument

/-- MOVE_BY (R89). -/
def reqMoveBy (q : Port) (group : Byte) (distance : Word24) (s : State) : Answer :=
  match groupOf group with
  | none => s.deny .badArgument
  | some g =>
    if -67535 ≤ distance.toInt ∧ distance.toInt ≤ 67535 then s.startReply q g (.dist distance.toInt)
    else s.deny .badArgument

/-- JOG (R89, R94). -/
def reqJog (q : Port) (group direction : Byte) (s : State) : Answer :=
  match groupOf group, jogDirOf direction with
  | some g, some d => s.startReply q g (.jog d)
  | _, _ => s.deny .badArgument

/-- STOP (R111). -/
def reqStop (group : Byte) (s : State) : Answer :=
  match groupOf group with
  | none => s.deny .badArgument
  | some g =>
    let s1 := s.stopGroup g .stop
    (s1, .ok [(s1.group g).state.code])

/-- A member does not stand in the way of an acknowledgement: unbound, or accepted as STILL (R115). -/
def State.memberAtRest (s : State) (m : Member) : Bool :=
  (s.point m.point).boundSlot.isNone || s.sense m.point == some .still

/-- ACK_FAULT (R115). -/
def reqAckFault (q : Port) (group : Byte) (s : State) : Answer :=
  match groupOf group with
  | none => s.deny .badArgument
  | some g =>
    let r := s.group g
    if r.holder ≠ some q then s.deny .notHolder
    else match r.state with
      | .moving => s.deny .busy
      | .stopping => s.deny .busy
      | .idle => (s, .ok [])
      | .fault =>
        if r.members.all s.memberAtRest then
          (s.setGroup g { r.updAll Member.rested with state := .idle, fault := none }, .ok [])
        else s.deny .busy

/-- SET_STOP_LEAD (R104). -/
def reqSetStopLead (point : Byte) (lead : Word16) (s : State) : Answer :=
  match pointOf point with
  | none => s.deny .badArgument
  | some p =>
    if s.pointActive p then s.deny .busy
    else
      let v := min lead.toNat 250
      (s.setPoint p { s.point p with stopLead := v }, .ok [byte v])

/-- A member's lead while it travels in a MOVING group; absent otherwise (R117). -/
def State.reportedLead (s : State) (g : GroupId) (m : Member) : Option Int :=
  if (s.group g).state = .moving then s.lead g m else none

/-- A member entry of MOTION_READ (R177). -/
def State.memberBytes (s : State) (g : GroupId) (m : Member) : List Byte :=
  [pointByte m.point, m.state.code] ++ optPos (s.pos m.point) ++ optPos m.startPos ++ optPos m.target ++
    optKg m.baseline ++ optPos m.releasePos ++ [byte m.settle] ++ loadBytes (s.point m.point).load.value ++
    [byte (s.point m.point).stopLead] ++ optLead (s.reportedLead g m)

/-- The group part of MOTION_READ (R177). -/
def GroupRec.motionBytes (r : GroupRec) (first : Nat) : List Byte :=
  [r.state.code, r.kind.code, r.dir.code, r.origin.code] ++ int3 r.applied ++ faultBytes r.fault ++
    [orByte 0 StopCause.code r.stopCause, byte r.members.length, byte first]

/-- MOTION_READ (R117, R177). -/
def reqMotionRead (group : Byte) (first : Option Byte) (s : State) : Answer :=
  match groupOf group with
  | none => s.deny .badArgument
  | some g =>
    let f := (first.getD 0).toNat
    if (s.group g).members.length < f then s.deny .badArgument
    else
      (s, .ok ((s.group g).motionBytes f ++
        (((s.group g).members.drop f).take 2).flatMap fun m => s.memberBytes g m))

/-! ## The commands -/

/-- MOVE_TO (R89). -/
def execMoveTo (q : Port) (tag group : Byte) (height : Word24) (s : State) : Host.Outcome State Fault Refusal :=
  .next (s.request q 0x40 tag (reqMoveTo q group height))

/-- MOVE_BY (R89). -/
def execMoveBy (q : Port) (tag group : Byte) (distance : Word24) (s : State) : Host.Outcome State Fault Refusal :=
  .next (s.request q 0x41 tag (reqMoveBy q group distance))

/-- JOG (R94). -/
def execJog (q : Port) (tag group direction : Byte) (s : State) : Host.Outcome State Fault Refusal :=
  .next (s.request q 0x42 tag (reqJog q group direction))

/-- STOP (R111). -/
def execStop (q : Port) (tag group : Byte) (s : State) : Host.Outcome State Fault Refusal :=
  .next (s.request q 0x43 tag (reqStop group))

/-- ACK_FAULT (R115). -/
def execAckFault (q : Port) (tag group : Byte) (s : State) : Host.Outcome State Fault Refusal :=
  .next (s.request q 0x44 tag (reqAckFault q group))

/-- SET_STOP_LEAD (R104). -/
def execSetStopLead (q : Port) (tag point : Byte) (lead : Word16) (s : State) : Host.Outcome State Fault Refusal :=
  .next (s.request q 0x45 tag (reqSetStopLead point lead))

/-- MOTION_READ (R117). -/
def execMotionRead (q : Port) (tag group : Byte) (first : Option Byte) (s : State) : Host.Outcome State Fault Refusal :=
  .next (s.request q 0x46 tag (reqMotionRead group first))

end Sys2Proof.Machine
end

