-- ==== Sys2Proof/Machine/Notices.lean ====
section
/-! DEFINITION. The requests of the Notice Unit and of the Port Interface itself: NOTICE_READ, NOTICE_MASK, WARN_CONFIG,
ENABLE, PORT_STATUS (R159, R160, R166, R170, R172, R174). -/

namespace Sys2Proof.Machine

/-- R160: a port's enable becomes INACTIVE, and its MOVING groups are stopped with cause ENABLE. -/
def State.dropEnable (s : State) (q : Port) : State :=
  (s.setPort q { s.port q with enable := false, enableWindow := none }).stopHeld q .enable

/-- R159: ENABLE with a level. -/
def State.setEnable (s : State) (q : Port) (level : Bool) : State :=
  if level then s.setPort q { s.port q with enable := true, enableWindow := s.timer Config.enableTime }
  else if (s.port q).enable then s.dropEnable q else s

/-- ENABLE (R159). -/
def reqEnable (q : Port) (level : Byte) (s : State) : Answer :=
  match yesNoOf level with
  | some b =>
    let s1 := s.setEnable q b
    (s1, .ok [boolByte (s1.port q).enable])
  | none => s.deny .badArgument

/-- A link UP. -/
def Link.isUp : Link → Bool
  | .up => true
  | .down => false

/-- One port's byte of PORT_STATUS: bit 0 link UP, bit 1 enable ACTIVE (Table 10-4). -/
def PortRec.statusByte (r : PortRec) : Byte :=
  (0 : BitVec 6) ++ BitVec.ofBool r.enable ++ BitVec.ofBool r.link.isUp

/-- PORT_STATUS (R166). -/
def reqPortStatus (q : Port) (s : State) : Answer :=
  (s, .ok ([s.ports.a.statusByte, s.ports.b.statusByte, s.ports.c.statusByte, portByte q] ++
    nat2 (s.port q).errors ++ nat2 (s.port q).overruns ++
    [byte (s.notice q).records.length, boolByte (s.notice q).lost] ++ nat2 0x0C48 ++ [1]))

/-- R170: the set after a read. -/
def NoticeSet.afterRead (n : NoticeSet) : NoticeSet :=
  { n with
    records := n.records.drop Config.noticePage
    lost := n.lost && !(n.records.drop Config.noticePage).isEmpty }

/-- NOTICE_READ (R170). -/
def reqNoticeRead (q : Port) (s : State) : Answer :=
  let n := s.notice q
  (s.setNotice q n.afterRead,
    .ok (byte (n.records.drop Config.noticePage).length :: boolByte n.lost ::
      (n.records.take Config.noticePage).flatMap NoticeRec.bytes))

/-- The kinds that cannot be suppressed, as bits of a kind set: GROUP_FAULT, RUNAWAY, ESTOP, MAINS_TRIPPED (R172). -/
def unsuppressible : BitVec 32 :=
  1 <<< (NoticeKind.code .groupFault - 1) ||| 1 <<< (NoticeKind.code .runaway - 1) |||
    1 <<< (NoticeKind.code .estop - 1) ||| 1 <<< (NoticeKind.code .mainsTripped - 1)

/-- NOTICE_MASK (R172): bit 31 is no kind. -/
def reqNoticeMask (q : Port) (kinds : BitVec 32) (s : State) : Answer :=
  if kinds.msb ∨ kinds &&& unsuppressible ≠ 0 then s.deny .badArgument
  else (s.setNotice q { s.notice q with suppress := kinds }, .ok (bytes4 kinds))

/-- The settings a WARN_CONFIG asks for; none when a byte holds no value of its coding. -/
def warnOf (enables polarity : Byte) : Option Warn :=
  match polarityOf polarity with
  | some p =>
    if enables.toNat < 32 then
      some { overload := enables.getLsbD 0, fault := enables.getLsbD 1, hold := enables.getLsbD 2,
             estop := enables.getLsbD 3, runaway := enables.getLsbD 4, polarity := p }
    else none
  | none => none

/-- WARN_CONFIG (R174). -/
def reqWarnConfig (enables polarity : Byte) (s : State) : Answer :=
  match warnOf enables polarity with
  | some w =>
    let s1 := s.setWarn w
    (s1, .ok [causeByte w.overload w.fault w.hold w.estop w.runaway, w.polarity.code,
      causeByte s1.overloadHolds s1.faultHolds s1.holdHolds s1.stopUnit.estop s1.runawayHolds, boolByte s1.warnActive])
  | none => s.deny .badArgument

/-! ## The commands -/

/-- ENABLE (R159). -/
def execEnable (q : Port) (tag level : Byte) (s : State) : Host.Outcome State Fault Refusal :=
  .next (s.request q 0x02 tag (reqEnable q level))

/-- PORT_STATUS (R166). -/
def execPortStatus (q : Port) (tag : Byte) (s : State) : Host.Outcome State Fault Refusal :=
  .next (s.request q 0x01 tag (reqPortStatus q))

/-- NOTICE_READ (R170). -/
def execNoticeRead (q : Port) (tag : Byte) (s : State) : Host.Outcome State Fault Refusal :=
  .next (s.request q 0x03 tag (reqNoticeRead q))

/-- NOTICE_MASK (R172). -/
def execNoticeMask (q : Port) (tag : Byte) (kinds : BitVec 32) (s : State) : Host.Outcome State Fault Refusal :=
  .next (s.request q 0x04 tag (reqNoticeMask q kinds))

/-- WARN_CONFIG (R174). -/
def execWarnConfig (q : Port) (tag enables polarity : Byte) (s : State) : Host.Outcome State Fault Refusal :=
  .next (s.request q 0x05 tag (reqWarnConfig enables polarity))

end Sys2Proof.Machine
end

