-- ==== Sys2Proof/Machine/Stops.lean ====
section
/-! DEFINITION. The requests of the Stop Unit (chapter 6): CLEAR_STOP_FLAGS, SET_STOP_CONFIG, MAINS_CLOSE, MAINS_OPEN,
GRID_HOLD_SET, GRID_HOLD_CLEAR, STOP_READ, STOP_STATUS. -/

namespace Sys2Proof.Machine

/-- The stop bits of a point's accepted indication; each absent when there is none. -/
def State.acceptedStops (s : State) (p : PointId) : PerKind Bool := stopsOf (s.accepted p)

/-- Table 6-4: flag k after CLEAR_STOP_FLAGS. -/
def flagAfterClear (mode : DetectMode) (bit : Bool) : Bool :=
  match mode with
  | .level => bit
  | .edge => false

/-- R122: the stop part after an accepted clear. -/
def StopPart.clearFlags (t : StopPart) (bits : PerKind Bool) : StopPart :=
  { t with
    flags :=
      ⟨flagAfterClear t.modes.upper bits.upper, flagAfterClear t.modes.lower bits.lower,
        flagAfterClear t.modes.slack bits.slack, flagAfterClear t.modes.thermal bits.thermal⟩
    runaway := false }

/-- CLEAR_STOP_FLAGS (R122). -/
def reqClearStopFlags (point : Byte) (s : State) : Answer :=
  match pointOf point with
  | none => s.deny .badArgument
  | some p =>
    if (s.point p).stop.runaway ∧ s.sense p ≠ some .still then s.deny .busy
    else
      let t := (s.point p).stop.clearFlags (s.acceptedStops p)
      (s.setStop p t, .ok [flagsByte t])

/-- R124 for one kind: a mode that has become LEVEL from EDGE sets the flag of a present bit. -/
def State.levelFlag (s : State) (p : PointId) (before : PerKind DetectMode) (k : StopKind) : State :=
  let t := (s.point p).stop
  if before.get k = .edge ∧ t.modes.get k = .level ∧ (s.acceptedStops p).get k then
    let s1 := s.setStop p { t with flags := t.flags.set k true }
    if t.flags.get k then s1 else s1.notifyAll .stopInput (.point p)
  else s

/-- SET_STOP_CONFIG (R124). -/
def reqSetStopConfig (point modes masks : Byte) (s : State) : Answer :=
  match pointOf point, modesOf modes, masksOf masks with
  | some p, some d, some e =>
    if s.pointActive p then s.deny .busy
    else
      let t := (s.point p).stop
      let s1 := s.setStop p { t with modes := d, masks := e }
      (allKinds.foldl (fun u k => u.levelFlag p t.modes k) s1, .ok [modesByte d, masksByte e])
  | _, _, _ => s.deny .badArgument

/-- The lowest-numbered point whose runaway flag is set (R131, R136). -/
def State.lowestRunaway (s : State) : Option PointId := allPoints.find? fun p => (s.point p).stop.runaway

/-- MAINS_CLOSE (R131). -/
def reqMainsClose (s : State) : Answer :=
  if s.stopUnit.estop then s.deny (.blocked .estop none)
  else match s.lowestRunaway with
    | some p => s.deny (.blocked .runaway (some p))
    | none => (s.setStopUnit { s.stopUnit with mains := .closed }, .ok [Mains.code .closed])

/-- MAINS_OPEN (R132). -/
def reqMainsOpen (q : Port) (s : State) : Answer :=
  let s1 := s.tripMains (.opened q)
  (s1, .ok [s1.stopUnit.mains.code])

/-- GRID_HOLD_SET (R134). -/
def reqGridHoldSet (q : Port) (s : State) : Answer :=
  let s1 :=
    if s.stopUnit.hold.get q then s
    else
      ((s.setStopUnit { s.stopUnit with hold := s.stopUnit.hold.set q true }).notifyAll .gridHold (.port q)).stopAll
        .hold
  (s1, .ok [portSetByte s1.stopUnit.hold])

/-- R135: a port's hold is removed on behalf of the requesting port. -/
def State.clearHold (s : State) (q r : Port) : Answer :=
  let s1 :=
    if s.stopUnit.hold.get r then
      (s.setStopUnit { s.stopUnit with hold := s.stopUnit.hold.set r false }).notifyAll .gridHoldClear (.port q)
    else s
  (s1, .ok [portSetByte s1.stopUnit.hold])

/-- GRID_HOLD_CLEAR (R135). -/
def reqGridHoldClear (q : Port) (target : Option Byte) (s : State) : Answer :=
  match target with
  | none => s.clearHold q q
  | some b =>
    match portOf b with
    | some r => s.clearHold q r
    | none => s.deny .badArgument

/-- The time since a point's last-run mark in two bytes: 65535 at or beyond 65535 ms, 0 when there is no mark
(R136, Table 10-4). -/
def State.sinceRun (s : State) (p : PointId) : Nat :=
  match (s.point p).lastRun with
  | some t => min (s.now - t) 65535
  | none => 0

/-- STOP_READ (R136). -/
def reqStopRead (point : Byte) (s : State) : Answer :=
  match pointOf point with
  | none => s.deny .badArgument
  | some p =>
    let t := (s.point p).stop
    (s, .ok ([flagsByte t, modesByte t.modes, masksByte t.masks, indicationByte (s.accepted p),
      boolByte (s.point p).lastRun.isSome] ++ nat2 (s.sinceRun p)))

/-- The number of points whose runaway flag is set. -/
def State.runawayCount (s : State) : Nat := (allPoints.filter fun p => (s.point p).stop.runaway).length

/-- STOP_STATUS (R136). -/
def reqStopStatus (s : State) : Answer :=
  (s, .ok ([boolByte s.stopUnit.estop, s.stopUnit.mains.code] ++ s.stopUnit.tripCause.bytes ++
    [portSetByte s.stopUnit.hold, byte s.runawayCount, optPoint s.lowestRunaway]))

/-! ## The commands -/

/-- CLEAR_STOP_FLAGS (R122). -/
def execClearStopFlags (q : Port) (tag point : Byte) (s : State) : Host.Outcome State Fault Refusal :=
  .next (s.request q 0x50 tag (reqClearStopFlags point))

/-- SET_STOP_CONFIG (R124). -/
def execSetStopConfig (q : Port) (tag point modes masks : Byte) (s : State) : Host.Outcome State Fault Refusal :=
  .next (s.request q 0x51 tag (reqSetStopConfig point modes masks))

/-- MAINS_CLOSE (R131). -/
def execMainsClose (q : Port) (tag : Byte) (s : State) : Host.Outcome State Fault Refusal :=
  .next (s.request q 0x52 tag reqMainsClose)

/-- MAINS_OPEN (R132). -/
def execMainsOpen (q : Port) (tag : Byte) (s : State) : Host.Outcome State Fault Refusal :=
  .next (s.request q 0x53 tag (reqMainsOpen q))

/-- GRID_HOLD_SET (R134). -/
def execGridHoldSet (q : Port) (tag : Byte) (s : State) : Host.Outcome State Fault Refusal :=
  .next (s.request q 0x54 tag (reqGridHoldSet q))

/-- GRID_HOLD_CLEAR (R135). -/
def execGridHoldClear (q : Port) (tag : Byte) (target : Option Byte) (s : State) : Host.Outcome State Fault Refusal :=
  .next (s.request q 0x55 tag (reqGridHoldClear q target))

/-- STOP_READ (R136). -/
def execStopRead (q : Port) (tag point : Byte) (s : State) : Host.Outcome State Fault Refusal :=
  .next (s.request q 0x56 tag (reqStopRead point))

/-- STOP_STATUS (R136). -/
def execStopStatus (q : Port) (tag : Byte) (s : State) : Host.Outcome State Fault Refusal :=
  .next (s.request q 0x57 tag reqStopStatus)

end Sys2Proof.Machine
end

