-- ==== Sys2Proof/Machine/Ports.lean ====
section
/-! DEFINITION. The Port Interface's own events (chapter 8): characters, frames, the end of a transmission, and the port
timers. -/

namespace Sys2Proof.Machine

/-- The execution of a request by the block that owns it (R162 step 4, Table 8-4). An event is no request. -/
def runRequest : Instr → State → Answer
  | .resetnAssert, s => s.deny .unknownType
  | .resetnRelease _ _, s => s.deny .unknownType
  | .frame, s => s.deny .unknownType
  | .upstreamField _ _, s => s.deny .unknownType
  | .slotJoining _, s => s.deny .unknownType
  | .slotLost _, s => s.deny .unknownType
  | .serviceJobEnd _, s => s.deny .unknownType
  | .serviceJobStart, s => s.deny .unknownType
  | .serviceTimeout, s => s.deny .unknownType
  | .runTimerExpiry _, s => s.deny .unknownType
  | .runawayAllowanceExpiry _, s => s.deny .unknownType
  | .estopAssertion, s => s.deny .unknownType
  | .estopRelease, s => s.deny .unknownType
  | .cueLineChange _, s => s.deny .unknownType
  | .rearmTimerExpiry, s => s.deny .unknownType
  | .rxCharacter _ _ _, s => s.deny .unknownType
  | .gapTimerExpiry _, s => s.deny .unknownType
  | .frameReceived _ _ _ _ _, s => s.deny .unknownType
  | .txFrameEnd _, s => s.deny .unknownType
  | .linkTimerExpiry _, s => s.deny .unknownType
  | .enableWindowExpiry _, s => s.deny .unknownType
  | .patchPoint _ _ point identity softMin softMax trim, s => reqPatchPoint point identity softMin softMax trim s
  | .unpatch _ _ point, s => reqUnpatch point s
  | .pointRead _ _ point, s => reqPointRead point s
  | .slotRead _ _ first count, s => reqSlotRead first count s
  | .busConfig _ _ epoch mode, s => reqBusConfig epoch mode s
  | .tare q _ point, s => reqTare q point s
  | .calWrite q _ point zero span wll, s => reqCalWrite q point zero span wll s
  | .calRead q _ point, s => reqCalRead q point s
  | .clearLoadAlarm _ _ point, s => reqClearLoadAlarm point s
  | .setLoadLimits _ _ point high low hyst mode, s => reqSetLoadLimits point high low hyst mode s
  | .setDutyLimit _ _ point limit, s => reqSetDutyLimit point limit s
  | .loadRead _ _ point, s => reqLoadRead point s
  | .setMembers q _ group points, s => reqSetMembers q group points s
  | .claim q _ group, s => reqClaim q group s
  | .release q _ group, s => reqRelease q group s
  | .takeover q _ group, s => reqTakeover q group s
  | .setBands q _ group pause resume trip share tolerance, s => reqSetBands q group pause resume trip share tolerance s
  | .groupRead _ _ group, s => reqGroupRead group s
  | .moveTo q _ group height, s => reqMoveTo q group height s
  | .moveBy q _ group distance, s => reqMoveBy q group distance s
  | .jog q _ group direction, s => reqJog q group direction s
  | .stop _ _ group, s => reqStop group s
  | .ackFault q _ group, s => reqAckFault q group s
  | .setStopLead _ _ point lead, s => reqSetStopLead point lead s
  | .motionRead _ _ group first, s => reqMotionRead group first s
  | .clearStopFlags _ _ point, s => reqClearStopFlags point s
  | .setStopConfig _ _ point modes masks, s => reqSetStopConfig point modes masks s
  | .mainsClose _ _, s => reqMainsClose s
  | .mainsOpen q _, s => reqMainsOpen q s
  | .gridHoldSet q _, s => reqGridHoldSet q s
  | .gridHoldClear q _ target, s => reqGridHoldClear q target s
  | .stopRead _ _ point, s => reqStopRead point s
  | .stopStatus _ _, s => reqStopStatus s
  | .cueWrite q _ index group action value follow, s => reqCueWrite q index group action value follow s
  | .cueClear q _, s => reqCueClear q s
  | .cueOwn q _, s => reqCueOwn q s
  | .cueDisown q _, s => reqCueDisown q s
  | .cueConfig q _ source mode, s => reqCueConfig q source mode s
  | .cueArm q _ start, s => reqCueArm q start s
  | .cueOff q _, s => reqCueOff q s
  | .cueGo q _, s => reqCueGo q s
  | .cueSkip q _, s => reqCueSkip q s
  | .cueRead _ _ first count, s => reqCueRead first count s
  | .enable q _ level, s => reqEnable q level s
  | .portStatus q _, s => reqPortStatus q s
  | .noticeRead q _, s => reqNoticeRead q s
  | .noticeMask q _ kinds, s => reqNoticeMask q kinds s
  | .warnConfig _ _ enables polarity, s => reqWarnConfig enables polarity s

/-- R162 steps 2 to 4: what a frame's TYPE and payload ask for is executed, or refused by type or length. -/
def runParsed (p : Parsed) (s : State) : Answer :=
  match p with
  | .unknown => s.deny .unknownType
  | .badLength => s.deny .badLength
  | .request i => runRequest i s

/-- R155: the frame in assembly is abandoned and counted. -/
def PortRec.abandon (r : PortRec) : PortRec :=
  { r with receiver := .hunting, gapTimer := none, errors := satSucc r.errors }

/-- The receiver goes back to HUNTING with no frame in assembly (R154). -/
def PortRec.hunt (r : PortRec) : PortRec := { r with receiver := .hunting, gapTimer := none }

/-- R156: a complete frame is checked; an invalid one is counted and discarded, a valid one is taken. -/
def State.frameChecked (s : State) (p : Port) (typ tag : Byte) (payload : List Byte) (crc : Word16) : State :=
  if crc = frameCrc typ tag payload then
    (s.frameArrives p).intake p typ tag (runParsed (parseRequest p typ tag payload))
  else s.setPort p { s.port p with errors := satSucc (s.port p).errors }

/-- A complete frame (R154, R156); a LEN above 60 would have abandoned it (R155). -/
def State.frameReceived (s : State) (p : Port) (typ tag : Byte) (payload : List Byte) (crc : Word16) : State :=
  if Config.maxPayload < payload.length then s.setPort p (s.port p).abandon
  else (s.setPort p (s.port p).hunt).frameChecked p typ tag payload crc

/-- The frame that the bytes since SYNC make, when LEN + 6 of them have come: TYPE, TAG, payload and CRC (R154). -/
def completeFrame : List Byte → Option (Byte × Byte × List Byte × Word16)
  | _ :: len :: typ :: tag :: rest =>
    if rest.length = len.toNat + 2 then
      match rest.drop len.toNat with
      | [h, l] => some (typ, tag, rest.take len.toNat, word2 h l)
      | _ => none
    else none
  | _ => none

/-- The bytes end with a LEN above 60 (R154, R155). -/
def lenTooLong : List Byte → Bool
  | [_, len] => decide (Config.maxPayload < len.toNat)
  | _ => false

/-- R154 in IN_FRAME: a character joins the frame in assembly. -/
def State.assemble (s : State) (p : Port) (bytes : List Byte) : State :=
  if lenTooLong bytes then s.setPort p (s.port p).abandon
  else match completeFrame bytes with
    | some (typ, tag, payload, crc) => s.frameReceived p typ tag payload crc
    | none => s.setPort p { s.port p with receiver := .inFrame bytes, gapTimer := s.timer Config.gapTime }

/-- R154, R155: a character arrives. -/
def State.character (s : State) (p : Port) (c : Byte) (stopBit : Bool) : State :=
  match (s.port p).receiver with
  | .hunting =>
    if c = 0xA5 ∧ stopBit then
      s.setPort p { s.port p with receiver := .inFrame [c], gapTimer := s.timer Config.gapTime }
    else s
  | .inFrame bytes => if stopBit then s.assemble p (bytes ++ [c]) else s.setPort p (s.port p).abandon

/-- R155: the gap timer expires, once it is due. -/
def State.gapExpiry (s : State) (p : Port) : State :=
  if s.due (s.port p).gapTimer then s.setPort p (s.port p).abandon else s

/-- R164: the head frame has been sent. -/
def State.txEnd (s : State) (p : Port) : State := s.setPort p { s.port p with tx := (s.port p).tx.tail }

/-- R79 for one group: it is orphaned, and stopped if MOVING. -/
def State.orphan (s : State) (p : Port) (g : GroupId) : State :=
  if (s.group g).holder = some p then
    let s1 :=
      if (s.group g).orphaned then s
      else (s.setGroup g { s.group g with orphaned := true }).notifyAll .orphaned (.group g)
    s1.stopGroup g .link
  else s

/-- R158: the port's own state is torn down, then the loss reaches the Group Table and the Service Engine. -/
def State.linkLoss (s : State) (p : Port) : State :=
  let s1 := s.setPort p { s.port p with link := .down, linkTimer := none, tx := [], enableWindow := none }
  let s2 := if (s1.port p).enable then s1.dropEnable p else s1
  (allGroups.foldl (fun t g => t.orphan p g) s2).dropPortEntries p

/-- R158: the link timer expires, once it is due. -/
def State.linkExpiry (s : State) (p : Port) : State :=
  if s.due (s.port p).linkTimer then s.linkLoss p else s

/-- R160: the enable window expires, once it is due. -/
def State.enableExpiry (s : State) (p : Port) : State :=
  if s.due (s.port p).enableWindow then s.dropEnable p else s

/-! ## The commands -/

/-- RX_CHARACTER (R154). -/
def execRxCharacter (p : Port) (c : Byte) (stopBit : Bool) (s : State) : Host.Outcome State Fault Refusal :=
  .next (s.event fun t => t.character p c stopBit)

/-- GAP_TIMER_EXPIRY (R155). -/
def execGapTimerExpiry (p : Port) (s : State) : Host.Outcome State Fault Refusal :=
  .next (s.event fun t => t.gapExpiry p)

/-- FRAME_RECEIVED (R156). -/
def execFrameReceived (p : Port) (typ tag : Byte) (payload : List Byte) (crc : Word16) (s : State) :
    Host.Outcome State Fault Refusal :=
  .next (s.event fun t => t.frameReceived p typ tag payload crc)

/-- TX_FRAME_END (R164). -/
def execTxFrameEnd (p : Port) (s : State) : Host.Outcome State Fault Refusal := .next (s.event fun t => t.txEnd p)

/-- LINK_TIMER_EXPIRY (R158). -/
def execLinkTimerExpiry (p : Port) (s : State) : Host.Outcome State Fault Refusal :=
  .next (s.event fun t => t.linkExpiry p)

/-- ENABLE_WINDOW_EXPIRY (R160). -/
def execEnableWindowExpiry (p : Port) (s : State) : Host.Outcome State Fault Refusal :=
  .next (s.event fun t => t.enableExpiry p)

end Sys2Proof.Machine
end

