-- ==== Sys2Proof/Machine/Dispatch.lean ====
section
/-! DEFINITION. The meaning of every command, one arm each. -/

namespace Sys2Proof.Machine

def exec (i : Instr) (s : State) : Host.Outcome State Fault Refusal :=
  match i with
  | .resetnAssert => Sys2Proof.Machine.execResetnAssert s
  | .resetnRelease estopLine cueLine => Sys2Proof.Machine.execResetnRelease estopLine cueLine s
  | .frame => Sys2Proof.Machine.execFrame s
  | .upstreamField slot field => Sys2Proof.Machine.execUpstreamField slot field s
  | .slotJoining slot => Sys2Proof.Machine.execSlotJoining slot s
  | .slotLost slot => Sys2Proof.Machine.execSlotLost slot s
  | .serviceJobEnd ending => Sys2Proof.Machine.execServiceJobEnd ending s
  | .serviceJobStart => Sys2Proof.Machine.execServiceJobStart s
  | .serviceTimeout => Sys2Proof.Machine.execServiceTimeout s
  | .runTimerExpiry point => Sys2Proof.Machine.execRunTimerExpiry point s
  | .runawayAllowanceExpiry point => Sys2Proof.Machine.execRunawayAllowanceExpiry point s
  | .estopAssertion => Sys2Proof.Machine.execEstopAssertion s
  | .estopRelease => Sys2Proof.Machine.execEstopRelease s
  | .cueLineChange level => Sys2Proof.Machine.execCueLineChange level s
  | .rearmTimerExpiry => Sys2Proof.Machine.execRearmTimerExpiry s
  | .rxCharacter port char stopBit => Sys2Proof.Machine.execRxCharacter port char stopBit s
  | .gapTimerExpiry port => Sys2Proof.Machine.execGapTimerExpiry port s
  | .frameReceived port typ tag payload crc => Sys2Proof.Machine.execFrameReceived port typ tag payload crc s
  | .txFrameEnd port => Sys2Proof.Machine.execTxFrameEnd port s
  | .linkTimerExpiry port => Sys2Proof.Machine.execLinkTimerExpiry port s
  | .enableWindowExpiry port => Sys2Proof.Machine.execEnableWindowExpiry port s
  | .patchPoint port tag point identity softMin softMax trim => Sys2Proof.Machine.execPatchPoint port tag point identity softMin softMax trim s
  | .unpatch port tag point => Sys2Proof.Machine.execUnpatch port tag point s
  | .pointRead port tag point => Sys2Proof.Machine.execPointRead port tag point s
  | .slotRead port tag first count => Sys2Proof.Machine.execSlotRead port tag first count s
  | .busConfig port tag epoch mode => Sys2Proof.Machine.execBusConfig port tag epoch mode s
  | .tare port tag point => Sys2Proof.Machine.execTare port tag point s
  | .calWrite port tag point zero span wll => Sys2Proof.Machine.execCalWrite port tag point zero span wll s
  | .calRead port tag point => Sys2Proof.Machine.execCalRead port tag point s
  | .clearLoadAlarm port tag point => Sys2Proof.Machine.execClearLoadAlarm port tag point s
  | .setLoadLimits port tag point high low hyst mode => Sys2Proof.Machine.execSetLoadLimits port tag point high low hyst mode s
  | .setDutyLimit port tag point limit => Sys2Proof.Machine.execSetDutyLimit port tag point limit s
  | .loadRead port tag point => Sys2Proof.Machine.execLoadRead port tag point s
  | .setMembers port tag group points => Sys2Proof.Machine.execSetMembers port tag group points s
  | .claim port tag group => Sys2Proof.Machine.execClaim port tag group s
  | .release port tag group => Sys2Proof.Machine.execRelease port tag group s
  | .takeover port tag group => Sys2Proof.Machine.execTakeover port tag group s
  | .setBands port tag group pause resume trip share tolerance => Sys2Proof.Machine.execSetBands port tag group pause resume trip share tolerance s
  | .groupRead port tag group => Sys2Proof.Machine.execGroupRead port tag group s
  | .moveTo port tag group height => Sys2Proof.Machine.execMoveTo port tag group height s
  | .moveBy port tag group distance => Sys2Proof.Machine.execMoveBy port tag group distance s
  | .jog port tag group direction => Sys2Proof.Machine.execJog port tag group direction s
  | .stop port tag group => Sys2Proof.Machine.execStop port tag group s
  | .ackFault port tag group => Sys2Proof.Machine.execAckFault port tag group s
  | .setStopLead port tag point lead => Sys2Proof.Machine.execSetStopLead port tag point lead s
  | .motionRead port tag group first => Sys2Proof.Machine.execMotionRead port tag group first s
  | .clearStopFlags port tag point => Sys2Proof.Machine.execClearStopFlags port tag point s
  | .setStopConfig port tag point modes masks => Sys2Proof.Machine.execSetStopConfig port tag point modes masks s
  | .mainsClose port tag => Sys2Proof.Machine.execMainsClose port tag s
  | .mainsOpen port tag => Sys2Proof.Machine.execMainsOpen port tag s
  | .gridHoldSet port tag => Sys2Proof.Machine.execGridHoldSet port tag s
  | .gridHoldClear port tag target => Sys2Proof.Machine.execGridHoldClear port tag target s
  | .stopRead port tag point => Sys2Proof.Machine.execStopRead port tag point s
  | .stopStatus port tag => Sys2Proof.Machine.execStopStatus port tag s
  | .cueWrite port tag index group action value follow => Sys2Proof.Machine.execCueWrite port tag index group action value follow s
  | .cueClear port tag => Sys2Proof.Machine.execCueClear port tag s
  | .cueOwn port tag => Sys2Proof.Machine.execCueOwn port tag s
  | .cueDisown port tag => Sys2Proof.Machine.execCueDisown port tag s
  | .cueConfig port tag source mode => Sys2Proof.Machine.execCueConfig port tag source mode s
  | .cueArm port tag start => Sys2Proof.Machine.execCueArm port tag start s
  | .cueOff port tag => Sys2Proof.Machine.execCueOff port tag s
  | .cueGo port tag => Sys2Proof.Machine.execCueGo port tag s
  | .cueSkip port tag => Sys2Proof.Machine.execCueSkip port tag s
  | .cueRead port tag first count => Sys2Proof.Machine.execCueRead port tag first count s
  | .enable port tag level => Sys2Proof.Machine.execEnable port tag level s
  | .portStatus port tag => Sys2Proof.Machine.execPortStatus port tag s
  | .noticeRead port tag => Sys2Proof.Machine.execNoticeRead port tag s
  | .noticeMask port tag kinds => Sys2Proof.Machine.execNoticeMask port tag kinds s
  | .warnConfig port tag enables polarity => Sys2Proof.Machine.execWarnConfig port tag enables polarity s

end Sys2Proof.Machine
end

