-- ==== Sys2Proof/Machine/Step.lean ====
section
/-! DEFINITION. One step: the command at the front of the queue is taken; with none waiting the block idles. -/

namespace Sys2Proof.Machine

/-- The block takes the command at the front of its queue and runs it with the queue's rest. On an empty queue it
idles (log entry 1): time passes by FRAME commands only. -/
def step (s : State) : Host.Outcome State Fault Refusal :=
  match s.pending with
  | [] => .next s
  | c :: rest => exec c { s with pending := rest }

/-- The command a table word spells, put at the front of the queue. No row of the table gives bits, so no word spells
one and the state is as it was (log entry 28). -/
def State.withFetchWord (s : State) (nbits w : Nat) : State :=
  match Sys2Proof.decodeTableWord nbits w with
  | some c => { s with pending := c :: s.pending }
  | none => s

end Sys2Proof.Machine
end

