-- ==== Sys2Proof/Safety.lean ====
section
/-! DEFINITION. The terms the statements use: when a request is taken and how it is answered, the permitted frame
lengths, when a group can start, and the laws of the device as invariants of State. -/

namespace Sys2Proof.Machine

/-! ## Requests -/

/-- No prompt stands: the state between two events, since every event acts on the prompts it raised (R165). -/
def State.Quiet (s : State) : Prop := ∀ q, (s.notice q).prompt = false

/-- A request of port q is executed: RESETn is not asserted, q's link is UP, and its transmit queue holds fewer than 6
frames (R162 step 1). -/
structure State.Takes (s : State) (q : Port) : Prop where
  running : s.inReset = false
  quiet : s.Quiet
  linkUp : (s.port q).link = .up
  room : (s.port q).tx.length < 6

/-- What the arrival and the answer of an executed request do to its port: the link timer is started anew (R156), and
one response joins the end of the transmit queue (R163). -/
def State.answered (s : State) (q : Port) (typ tag : Byte) (payload : List Byte) : State :=
  s.setPort q { s.port q with
    linkTimer := some (s.now + 1000), tx := (s.port q).tx ++ [⟨typ, tag, payload⟩] }

/-- The permitted LEN values of each request TYPE (Table 10-3); none for a TYPE that names no request. -/
def permittedLengths (typ : Byte) : Option (List Nat) :=
  match typ.toNat with
  | 0x01 => some [0] | 0x02 => some [1] | 0x03 => some [0] | 0x04 => some [4] | 0x05 => some [2]
  | 0x10 => some [13] | 0x11 => some [1] | 0x12 => some [1] | 0x13 => some [2] | 0x14 => some [2]
  | 0x20 => some [1] | 0x21 => some [7] | 0x22 => some [1] | 0x23 => some [1] | 0x24 => some [8]
  | 0x25 => some [3] | 0x26 => some [1]
  | 0x30 => some (List.range' 1 25) | 0x31 => some [1] | 0x32 => some [1] | 0x33 => some [1] | 0x34 => some [11]
  | 0x35 => some [1]
  | 0x40 => some [4] | 0x41 => some [4] | 0x42 => some [2] | 0x43 => some [1] | 0x44 => some [1] | 0x45 => some [3]
  | 0x46 => some [1, 2]
  | 0x50 => some [1] | 0x51 => some [3] | 0x52 => some [0] | 0x53 => some [0] | 0x54 => some [0] | 0x55 => some [0, 1]
  | 0x56 => some [1] | 0x57 => some [0]
  | 0x60 => some [7] | 0x61 => some [0] | 0x62 => some [0] | 0x63 => some [0] | 0x64 => some [2] | 0x65 => some [0, 1]
  | 0x66 => some [0] | 0x67 => some [0] | 0x68 => some [0] | 0x69 => some [2]
  | _ => none

/-- The ending of an exchange that fails its job, for a kind whose response has n bytes (R39). -/
def JobEnd.fails (n : Nat) : JobEnd → Bool
  | .response [] => true
  | .response (status :: data) => status != 0 || data.length + 1 != n
  | .timeout => true
  | .aborted => true
  | .lost => true

/-- The commands of a list, one after the other, until one stops. -/
def execAll : List Instr → State → Host.Outcome State Fault Refusal
  | [], s => .next s
  | c :: cs, s =>
    match exec c s with
    | .next t => execAll cs t
    | .fault r => .fault r
    | .refused r => .refused r

/-! ## Starting a move -/

/-- Checks 8, 9, 11 and 12 of Table 5-4 for one member, and check 10 in a down move; d is the direction, none when the
distance is 0 (R91). -/
structure State.MemberReady (s : State) (d : Option Dir) (p : PointId) : Prop where
  bound : (s.point p).boundSlot ≠ none
  position : (s.point p).raw ≠ none
  load : (s.point p).load.value ≠ .absent
  overload : (s.point p).load.overload.active = false
  underload : d = some .down → (s.point p).load.underload.active = false
  stops : ∀ e, d = some e → ∀ k : StopKind,
    (s.point p).stop.flags.get k = true → (s.point p).stop.masks.get k = true → k.blocks e = false
  runaway : (s.point p).stop.runaway = false
  duty : (s.point p).load.dutyHot = false

/-- Checks 1 to 7 of Table 5-4 for a START of group g by port q. -/
structure State.GateOpen (s : State) (q : Port) (g : GroupId) : Prop where
  holder : (s.group g).holder = some q
  idle : (s.group g).state = .idle
  members : (s.group g).members ≠ []
  estop : s.stopUnit.estop = false
  mains : s.stopUnit.mains = .closed
  hold : s.stopUnit.hold = ⟨false, false, false⟩
  enable : (s.port q).enable = true

/-- Every check of Table 5-4 for a START of group g by port q in direction d. -/
structure State.Startable (s : State) (q : Port) (g : GroupId) (d : Option Dir) : Prop where
  gate : s.GateOpen q g
  ready : ∀ m ∈ (s.group g).members, s.MemberReady d m.point

/-! ## Starting, stopping and faulting a group -/

/-- What a START of group g leaves (R93): every member is in RUN from its present position and load, with a target D
away in a TARGET move and none in a JOG, and the group is MOVING. -/
def State.started (s : State) (g : GroupId) (kind : MoveKind) (o : MoveOrigin) (d : Dir) (applied : Int) : State :=
  s.setGroup g { s.group g with
    members := (s.group g).members.map fun m =>
      { point := m.point
        state := .run
        startPos := s.pos m.point
        target := if kind = .target then (s.pos m.point).map (· + applied) else none
        baseline := match (s.point m.point).load.value with
          | .kg v => some v
          | _ => none
        releasePos := none
        releasedMoving := false
        runTimer := some (s.now + 400)
        settle := 0 }
    state := .moving
    kind := kind
    dir := d
    origin := o
    applied := applied
    stopCause := none }

/-- Every member's position shifted by D lies within its soft limits. -/
def State.TargetsFit (s : State) (g : GroupId) (D : Int) : Prop :=
  ∀ m ∈ (s.group g).members, ∀ x, s.pos m.point = some x →
    (s.point m.point).softMin ≤ x + D ∧ x + D ≤ (s.point m.point).softMax

/-- A group record that a fault leaves (R114). -/
def GroupRec.faulted (r : GroupRec) (k : FaultKind) (subject : Option PointId) : GroupRec :=
  { r with
    members := r.members.map fun m => { m with state := .halt, runTimer := none }
    state := .fault
    fault := some ⟨k, subject⟩ }

/-- A group record that has come to rest (R86). -/
def GroupRec.atRest (r : GroupRec) : GroupRec :=
  { r with
    members := r.members.map fun m => { m with state := .still, runTimer := none }
    state := .idle }

/-- A group record that a stop leaves (R110): every member not in DONE is halted. -/
def GroupRec.stopped (r : GroupRec) (c : StopCause) : GroupRec :=
  { r with
    members := r.members.map fun m =>
      { m with state := if m.state = .done then .done else .halt, runTimer := none }
    state := .stopping
    stopCause := some c }

/-- Every member is DONE or its accepted motion sense is STILL: a stop of the group ends at once (R112). -/
abbrev State.AllStill (s : State) (g : GroupId) : Prop :=
  ∀ m ∈ (s.group g).members, m.state = .done ∨ s.sense m.point = some .still

/-! ## The laws of the device -/

/-- R153, R156, R158 to R160, R164: each port's fields keep their ranges, its timers run with what they time, an enable
stands only on an UP link, and a DOWN link has nothing queued. -/
structure State.PortsSound (s : State) : Prop where
  queue : ∀ q, (s.port q).tx.length ≤ 6
  errors : ∀ q, (s.port q).errors ≤ 65535
  overruns : ∀ q, (s.port q).overruns ≤ 65535
  gapTimer : ∀ q, (s.port q).receiver = .hunting ↔ (s.port q).gapTimer = none
  linkTimer : ∀ q, (s.port q).link = .down ↔ (s.port q).linkTimer = none
  window : ∀ q, (s.port q).enable = false ↔ (s.port q).enableWindow = none
  enableUp : ∀ q, (s.port q).enable = true → (s.port q).link = .up
  downIdle : ∀ q, (s.port q).link = .down → (s.port q).tx = []

/-- R167, R168, R172: each notice set holds at most 32 records, no two of one kind and subject, with counts of 1 to 255;
the four kinds that cannot be suppressed are not; no prompt outlives its event. -/
structure State.NoticesSound (s : State) : Prop where
  size : ∀ q, (s.notice q).records.length ≤ 32
  distinct : ∀ q, ((s.notice q).records.map fun r => (r.kind, r.subject)).Nodup
  counts : ∀ q, ∀ r ∈ (s.notice q).records, 1 ≤ r.count ∧ r.count ≤ 255
  suppress : ∀ q, (s.notice q).suppresses .groupFault = false ∧ (s.notice q).suppresses .runaway = false ∧
    (s.notice q).suppresses .estop = false ∧ (s.notice q).suppresses .mainsTripped = false
  quiet : s.Quiet

/-- R2, R5, R6, R26: binding is one to one, a bound point's identity is its slot's, no two points share an identity, and
a slot that is not BOUND has no indication. -/
structure State.BindingSound (s : State) : Prop where
  slotPoint : ∀ n, (s.slot n).state = .bound ↔ (s.slot n).point ≠ none
  oneToOne : ∀ n p, (s.slot n).point = some p ↔ (s.point p).boundSlot = some n
  sameIdentity : ∀ n p, (s.slot n).point = some p → (s.slot n).identity ≠ none ∧ (s.point p).identity = (s.slot n).identity
  slotIdentity : ∀ n, (s.slot n).identity ≠ none ↔ (s.slot n).state = .bound ∨ (s.slot n).state = .foreign
  distinct : ∀ p p', (s.point p).identity ≠ none → (s.point p).identity = (s.point p').identity → p = p'
  valid : ∀ p x, (s.point p).identity = some x → x ≠ 0x00000000 ∧ x ≠ 0xFFFFFFFF
  raw : ∀ p, (s.point p).raw ≠ none → (s.point p).boundSlot ≠ none
  indications : ∀ n, (s.slot n).state ≠ .bound → (s.slot n).candidate = none ∧ (s.slot n).accepted = none

/-- R5, R7, R8: the counters of a slot. -/
structure State.CountersSound (s : State) : Prop where
  emptyPresence : ∀ n, (s.slot n).state = .empty → (s.slot n).presence ≤ 3 ∧ (s.slot n).miss = 0
  otherPresence : ∀ n, (s.slot n).state ≠ .empty → (s.slot n).presence = 4 ∧ (s.slot n).miss ≤ 7
  framePos : s.bus.framePos < s.bus.epoch.frames

/-- R68, R70: a group lists at most 24 points, none twice, and a point's group is the one that lists it. -/
structure State.MembershipSound (s : State) : Prop where
  size : ∀ g, (s.group g).members.length ≤ 24
  distinct : ∀ g, ((s.group g).members.map Member.point).Nodup
  inStep : ∀ p g, (s.point p).group = some g ↔ ∃ m ∈ (s.group g).members, m.point = p

/-- R127, R130, R134: with the mains TRIPPED no group is MOVING or STOPPING; an ACTIVE ESTOP view leaves the mains
TRIPPED; while a hold stands no group is MOVING. -/
structure State.PowerSound (s : State) : Prop where
  mains : s.stopUnit.mains = .tripped → ∀ g, (s.group g).state ≠ .moving ∧ (s.group g).state ≠ .stopping
  estop : s.stopUnit.estop = true → s.stopUnit.mains = .tripped
  hold : s.stopUnit.hold ≠ ⟨false, false, false⟩ → ∀ g, (s.group g).state ≠ .moving

/-- R111, R76, R68: every MOVING group has a holder whose link is UP and whose enable is ACTIVE, a STOPPING group has a
holder, and only a held group is orphaned. -/
structure State.DriveSound (s : State) : Prop where
  moving : ∀ g, (s.group g).state = .moving →
    ∃ q, (s.group g).holder = some q ∧ (s.port q).link = .up ∧ (s.port q).enable = true
  stopping : ∀ g, (s.group g).state = .stopping → (s.group g).holder ≠ none
  orphaned : ∀ g, (s.group g).orphaned = true → (s.group g).holder ≠ none
  enableUp : ∀ q, (s.port q).enable = true → (s.port q).link = .up

/-- R137: the pointer never exceeds the count and the count never exceeds 64; the engine is OFF while there is no owner;
the fired group is present exactly while it is RUNNING. -/
structure State.CueSound (s : State) : Prop where
  pointer : s.cue.pointer ≤ s.cue.list.length
  count : s.cue.list.length ≤ 64
  owner : s.cue.owner = none → s.cue.state = .off
  fired : s.cue.firedGroup ≠ none ↔ s.cue.state = .running

/-- R92: every member of a MOVING group with a TARGET move has a target within its point's soft limits. -/
def State.TargetsSound (s : State) : Prop :=
  ∀ g, (s.group g).state = .moving → (s.group g).kind = .target → ∀ m ∈ (s.group g).members,
    ∃ x, m.target = some x ∧ (s.point m.point).softMin ≤ x ∧ x ≤ (s.point m.point).softMax

/-- R45, R50: the ranges of the load part, and its law: a load value stands only on a full window and a calibration;
the exit_seen marks stand only on ACTIVE conditions in LATCH. -/
structure LoadPart.Sound (l : LoadPart) : Prop where
  cal : ∀ c, l.cal = some c → c.inRange = true
  window : l.window.length ≤ 8
  value : l.value ≠ .absent → l.window.length = 8 ∧ l.cal ≠ none
  high : l.high = 0 ∨ 50 ≤ l.high ∧ l.high ≤ 20000
  low : l.low ≤ 19950
  hyst : 5 ≤ l.hyst ∧ l.hyst ≤ 500
  overExit : l.overload.exitSeen = true → l.overload.active = true ∧ l.alarm = .latch
  underExit : l.underload.exitSeen = true → l.underload.active = true ∧ l.alarm = .latch
  duty : l.duty ≤ 65535
  dutyLimit : 300 ≤ l.dutyLimit ∧ l.dutyLimit ≤ 60000

/-- R45 for every point, with R48's premise: every calibration that waits to be written lies in its ranges. -/
structure State.LoadsSound (s : State) : Prop where
  points : ∀ p, (s.point p).load.Sound
  queued : ∀ e ∈ s.service.portQueue, ∀ c, e.write = some c → c.inRange = true
  active : ∀ j, s.service.active = some j → ∀ c, j.write = some c → c.inRange = true

/-- R40, R42: the join list holds at most one entry per slot, a full one for a JOINING slot and a calibration one for a
BOUND slot; the port service queue holds at most 6 entries, at most 2 of any one port. -/
structure State.ServiceSound (s : State) : Prop where
  joinOnce : (s.service.joinList.map JoinEntry.slot).Nodup
  fullJoining : ∀ e ∈ s.service.joinList, e.kind = .full → (s.slot e.slot).state = .joining
  calibrationBound : ∀ e ∈ s.service.joinList, e.kind = .calibration → (s.slot e.slot).state = .bound
  identJoining : ∀ j, s.service.active = some j → j.kind = .ident →
    (s.slot j.slot).state = .joining ∧ ∀ e ∈ s.service.joinList, e.slot ≠ j.slot
  portQueue : s.service.portQueue.length ≤ 6
  perPort : ∀ q, (s.service.portQueue.filter fun e => e.port == q).length ≤ 2

/-- The ranges of Table 4-5 (R82), of the stop lead (R102), of the soft limits and trim (R2), and of the share-settle
count (Table 5-2). -/
structure State.RangesSound (s : State) : Prop where
  pause : ∀ g, 2 ≤ (s.group g).bands.pause ∧ (s.group g).bands.pause ≤ 100
  resume : ∀ g, (s.group g).bands.resume + 1 ≤ (s.group g).bands.pause
  trip : ∀ g, (s.group g).bands.pause + 10 ≤ (s.group g).bands.trip ∧ (s.group g).bands.trip ≤ 500
  share : ∀ g, 5 ≤ (s.group g).bands.share ∧ (s.group g).bands.share ≤ 50
  tolerance : ∀ g, 5 ≤ (s.group g).bands.tolerance ∧ (s.group g).bands.tolerance ≤ 200
  settle : ∀ g, ∀ m ∈ (s.group g).members, m.settle ≤ 4
  stopLead : ∀ p, (s.point p).stopLead ≤ 250
  softLimits : ∀ p, -1000 ≤ (s.point p).softMin ∧ (s.point p).softMin + 100 ≤ (s.point p).softMax ∧
    (s.point p).softMax ≤ 66535
  trim : ∀ p, -1000 ≤ (s.point p).trim ∧ (s.point p).trim ≤ 1000

end Sys2Proof.Machine
end

