-- ==== Sys2Proof/WellFormed.lean ====
section
/-! DEFINITION. Which terms of Instr the outside world can send. Types bound every operand but three lists. -/

namespace Sys2Proof

/-- A response message holds at most 7 bytes (R37). -/
def JobEnd.wellFormed : JobEnd → Bool
  | .response bytes => decide (bytes.length ≤ 7)
  | .timeout => true
  | .aborted => true
  | .lost => true

/-- A command that can be sent: a response of at most 7 bytes (R37), a payload of at most 60 (Table 10-2), and a
member list that fits the longest SET_MEMBERS (Table 10-3). Every other operand is bounded by its type. -/
def Instr.wellFormed : Instr → Bool
  | .serviceJobEnd e => e.wellFormed
  | .frameReceived _ _ _ payload _ => decide (payload.length ≤ Config.maxPayload)
  | .setMembers _ _ _ points => decide (points.length ≤ Config.maxMembers)
  | _ => true

end Sys2Proof
end

