-- ==== Sys2Proof/Certificates/Slice0/Obligations.lean ====
section
/-! DEFINITION. The statements for the provers, family by family. -/

open Sys2Proof Sys2Proof.Machine

/-! ## The machine -/

/-- One step runs the command at the front of the queue on the queue's rest. -/
def Obligations.StepRunsTheFrontCommand : Prop :=
  ∀ (s : State) (c : Instr) (rest : List Instr), s.pending = c :: rest → step s = exec c { s with pending := rest }

/-- Every command of the table answers a next state, and none touches the queue; on an empty queue the block idles (the
model's choice, log entry 1). -/
def Obligations.EveryCommandAnswersAndKeepsTheQueue : Prop :=
  (∀ (c : Instr) (s : State), ∃ t, exec c s = .next t ∧ t.pending = s.pending) ∧
    ∀ s : State, s.pending = [] → step s = .next s

/-- R1: while RESETn is asserted the outputs rest; at its release every piece of state takes its reset value, with the two
views at the levels of their lines (R127, R137) and ESTOP noted when its line is low. That the assertion keeps the
state, and that every command but RESETN_RELEASE then changes nothing, timers and expiries too, is the model's choice
(log entry 5): R1 speaks of characters, lines and frames. -/
def Obligations.ResetAssertionAndRelease : Prop :=
  (∀ s : State, exec .resetnAssert s = .next { s with inReset := true }) ∧
  (∀ s : State, s.inReset = true →
    s.mainsLine = false ∧ s.warnLine = .low ∧ (∀ q, s.txLine q = []) ∧
    ∀ c : Instr, (∀ e v, c ≠ .resetnRelease e v) → exec c s = .next s) ∧
  (∀ (s : State) (v : Level), s.inReset = true →
    exec (.resetnRelease .high v) s =
      .next { State.reset with pending := s.pending, cue := { State.reset.cue with level := v } }) ∧
  (∀ (s : State) (v : Level), s.inReset = true →
    exec (.resetnRelease .low v) s =
      .next { State.reset with
        pending := s.pending
        cue := { State.reset.cue with level := v }
        stopUnit := { State.reset.stopUnit with estop := true }
        notices := ⟨{ State.reset.notices.a with records := [⟨.estop, .none, 1⟩] },
          { State.reset.notices.b with records := [⟨.estop, .none, 1⟩] },
          { State.reset.notices.c with records := [⟨.estop, .none, 1⟩] }⟩ })

/-- The values the rules state for reset, table by table. The levels of the two lines are the model's choice (log entry
4). The state after reset meets every law of the device. -/
def Obligations.ResetLeavesTheStatedValues : Prop :=
  ((∀ p, let r := State.reset.point p
     r.identity = none ∧ r.softMin = -1000 ∧ r.softMax = 66535 ∧ r.trim = 0 ∧ r.boundSlot = none ∧ r.lastSlot = none ∧
     r.raw = none ∧ r.group = none ∧ r.stopLead = 15 ∧ r.lastRun = none ∧
     r.load.cal = none ∧ r.load.calFault = false ∧ r.load.window = [] ∧ r.load.discardNext = true ∧
     r.load.value = .absent ∧ r.load.high = 0 ∧ r.load.low = 0 ∧ r.load.hyst = 20 ∧ r.load.alarm = .compare ∧
     r.load.overload = ⟨false, false⟩ ∧ r.load.underload = ⟨false, false⟩ ∧ r.load.duty = 0 ∧
     r.load.dutyLimit = 33750 ∧ r.load.dutyHot = false ∧
     (∀ k, r.stop.flags.get k = false ∧ r.stop.modes.get k = .level ∧ r.stop.masks.get k = true) ∧
     r.stop.runaway = false) ∧
   (∀ n, let r := State.reset.slot n
     r.state = .empty ∧ r.identity = none ∧ r.point = none ∧ r.presence = 0 ∧ r.miss = 0 ∧ r.candidate = none ∧
     r.accepted = none ∧ r.lastSeq = none) ∧
   (∀ g, let r := State.reset.group g
     r.members = [] ∧ r.holder = none ∧ r.orphaned = false ∧ r.bands = ⟨10, 4, 60, 15, 20⟩ ∧ r.state = .idle ∧
     r.kind = .target ∧ r.dir = .up ∧ r.origin = .console ∧ r.applied = 0 ∧ r.fault = none ∧ r.stopCause = none) ∧
   (∀ q, let r := State.reset.port q
     r.receiver = .hunting ∧ r.gapTimer = none ∧ r.link = .down ∧ r.linkTimer = none ∧ r.enable = false ∧
     r.enableWindow = none ∧ r.tx = [] ∧ r.errors = 0 ∧ r.overruns = 0) ∧
   (∀ q, (State.reset.notice q).records = [] ∧ (State.reset.notice q).lost = false ∧
     (State.reset.notice q).suppress = 0) ∧
   State.reset.bus.epoch = .e16 ∧ State.reset.bus.mode = .double ∧ State.reset.bus.framePos = 0 ∧
   State.reset.service.active = none ∧ State.reset.service.joinList = [] ∧ State.reset.service.portQueue = [] ∧
   State.reset.stopUnit.mains = .tripped ∧ State.reset.stopUnit.tripCause = .reset ∧
   State.reset.stopUnit.hold = ⟨false, false, false⟩ ∧
   State.reset.cue.list = [] ∧ State.reset.cue.pointer = 0 ∧ State.reset.cue.state = .off ∧
   State.reset.cue.owner = none ∧ State.reset.cue.source = .console ∧ State.reset.cue.mode = .rise ∧
   State.reset.cue.rearm = none ∧ State.reset.cue.firedGroup = none ∧ State.reset.cue.firedIndex = none ∧
   State.reset.cue.stall = none ∧
   State.reset.warn = ⟨true, true, true, true, true, .activeHigh⟩) ∧
  State.reset.PortsSound ∧ State.reset.NoticesSound ∧ State.reset.BindingSound ∧ State.reset.CountersSound ∧
  State.reset.MembershipSound ∧ State.reset.PowerSound ∧ State.reset.DriveSound ∧ State.reset.CueSound ∧
  State.reset.TargetsSound ∧ State.reset.LoadsSound ∧ State.reset.ServiceSound ∧ State.reset.RangesSound

/-! ## Frames and requests -/

/-- Field coding (Table 10-1) of points, groups, ports and words of two, three and four bytes, both ways. The two check
computations give the values of their examples (R176, R178), and a message followed by its own check leaves the
register at 0. The frame at the head of a transmit queue sends SYNC, LEN, TYPE, TAG, payload and the CRC over all but
SYNC (Table 10-2, R176); a downstream field is the three bytes of Table 10-7 with its check (R178). -/
def Obligations.FieldsAndChecksAreCoded : Prop :=
  (∀ (s : State) (q : Port), s.inReset = false →
    ((s.port q).tx = [] → s.txLine q = []) ∧
    ∀ f rest, (s.port q).tx = f :: rest →
      let body := BitVec.ofNat 8 f.payload.length :: f.typ :: f.tag :: f.payload
      s.txLine q = 0xA5 :: body ++ bytes2 (crc16 body)) ∧
  (∀ f : DownField,
    let command := match f.command with
      | .stop => 0
      | .up => 1
      | .down => 2
    let mark := match f.mark with
      | .idle => 0
      | .phase0 => 1
      | .phase1 => 2
      | .fourth => 3
    let b : Byte := BitVec.ofNat 8 (command + (if f.epochMark then 4 else 0) + 8 * mark)
    f.bytes = [b, f.octet, slotCheck [b, f.octet]]) ∧
  ((∀ b p, pointOf b = some p ↔ b = pointByte p) ∧ (∀ b g, groupOf b = some g ↔ b = groupByte g) ∧
   (∀ b q, portOf b = some q ↔ b = portByte q) ∧
   (∀ p : PointId, (pointByte p).toNat = p.val + 1) ∧ (∀ g : GroupId, (groupByte g).toNat = g.val + 1) ∧
   (∀ a b, bytes2 (word2 a b) = [a, b]) ∧ (∀ a b c, bytes3 (word3 a b c) = [a, b, c]) ∧
   (∀ a b c d, bytes4 (word4 a b c d) = [a, b, c, d])) ∧
  crc16 [0x31, 0x32, 0x33, 0x34, 0x35, 0x36, 0x37, 0x38, 0x39] = 0x29B1 ∧
  slotCheck [0x31, 0x32, 0x33, 0x34, 0x35, 0x36, 0x37, 0x38, 0x39] = 0xF4 ∧
  (∀ m : List Byte, crc16 (m ++ bytes2 (crc16 m)) = 0) ∧ ∀ m : List Byte, slotCheck (m ++ [slotCheck m]) = 0

/-- Table 10-3: the TYPE and payload of every well-formed request give that request back, and whatever a TYPE and
payload give is well formed and has that TYPE and payload. -/
def Obligations.RequestFramesRoundTrip : Prop :=
  (∀ (i : Instr) (typ : Byte) (payload : List Byte) (q : Port) (tag : Byte), i.wellFormed = true →
    encodeRequest i = some (typ, payload) → requestPort i = some q → requestTag i = some tag →
    parseRequest q typ tag payload = .request i) ∧
  ∀ (q : Port) (typ tag : Byte) (payload : List Byte) (i : Instr), parseRequest q typ tag payload = .request i →
    i.wellFormed = true ∧ encodeRequest i = some (typ, payload) ∧ requestPort i = some q ∧ requestTag i = some tag

/-- A valid frame that carries a request does what the request's own command does, from a receiver that is HUNTING
again (R154, R156, R162). That a request command stands for its frame's arrival is the model's reading (log entry 7). -/
def Obligations.ValidFrameRunsItsRequest : Prop :=
  ∀ (i : Instr) (typ : Byte) (payload : List Byte) (q : Port) (tag : Byte) (s : State), i.wellFormed = true →
    encodeRequest i = some (typ, payload) → requestPort i = some q → requestTag i = some tag → s.inReset = false →
    ∃ t, exec (.frameReceived q typ tag payload (frameCrc typ tag payload)) s = .next t ∧
      exec i (s.setPort q { s.port q with receiver := .hunting, gapTimer := none }) = .next t

/-- R154: the characters of a frame, each with its stop bit, bring a HUNTING receiver to the complete frame. -/
def Obligations.CharactersAssembleAFrame : Prop :=
  ∀ (s : State) (q : Port) (typ tag : Byte) (payload : List Byte) (crc : Word16),
    s.inReset = false → s.Quiet → (s.port q).receiver = .hunting → payload.length ≤ 60 →
    execAll ((0xA5 :: BitVec.ofNat 8 payload.length :: typ :: tag :: payload ++ bytes2 crc).map
        fun c => .rxCharacter q c true) s =
      exec (.frameReceived q typ tag payload crc) s

/-- R154, R155, R156: what a character does in HUNTING and IN_FRAME, and what abandons or discards a frame, each time
counted in the error counter, which saturates (R153). -/
def Obligations.ReceiverAssemblesAbandonsAndCounts : Prop :=
  ∀ (s : State) (q : Port), s.inReset = false → s.Quiet →
  (∀ c stop, (s.port q).receiver = .hunting → c ≠ 0xA5 ∨ stop = false → exec (.rxCharacter q c stop) s = .next s) ∧
  ((s.port q).receiver = .hunting → exec (.rxCharacter q 0xA5 true) s =
    .next (s.setPort q { s.port q with receiver := .inFrame [0xA5], gapTimer := some (s.now + 20) })) ∧
  (∀ c sync, (s.port q).receiver = .inFrame [sync] → c.toNat ≤ 60 → exec (.rxCharacter q c true) s =
    .next (s.setPort q { s.port q with receiver := .inFrame [sync, c], gapTimer := some (s.now + 20) })) ∧
  (∀ c sync (len : Byte) rest, (s.port q).receiver = .inFrame (sync :: len :: rest) → rest.length + 3 < len.toNat + 6 →
    exec (.rxCharacter q c true) s =
      .next (s.setPort q { s.port q with
        receiver := .inFrame (sync :: len :: rest ++ [c]), gapTimer := some (s.now + 20) })) ∧
  (∀ c sync, (s.port q).receiver = .inFrame [sync] → 60 < c.toNat → exec (.rxCharacter q c true) s =
    .next (s.setPort q { s.port q with
      receiver := .hunting, gapTimer := none, errors := min ((s.port q).errors + 1) 65535 })) ∧
  (∀ c bytes, (s.port q).receiver = .inFrame bytes → exec (.rxCharacter q c false) s =
    .next (s.setPort q { s.port q with
      receiver := .hunting, gapTimer := none, errors := min ((s.port q).errors + 1) 65535 })) ∧
  (∀ d, (s.port q).gapTimer = some d → d ≤ s.now → exec (.gapTimerExpiry q) s =
    .next (s.setPort q { s.port q with
      receiver := .hunting, gapTimer := none, errors := min ((s.port q).errors + 1) 65535 })) ∧
  ∀ typ tag payload crc, payload.length ≤ 60 → crc ≠ frameCrc typ tag payload →
    exec (.frameReceived q typ tag payload crc) s =
      .next (s.setPort q { s.port q with
        receiver := .hunting, gapTimer := none, errors := min ((s.port q).errors + 1) 65535 })

/-- R162 steps 2 and 3 against Table 10-3: a TYPE that names no request is answered UNKNOWN_TYPE and a LEN that the
request does not permit BAD_LENGTH, and nothing else changes. R162 step 1: a request that finds 6 frames queued is
not executed and not answered; the link timer is started anew (R156) and the overrun counter rises by 1, to 65535 at
most. R164: when the head frame's last character has been sent it leaves the transmit queue, and nothing else
changes. -/
def Obligations.RequestsAreAnsweredTurnedAwayAndSent : Prop :=
  (∀ (s : State) (q : Port) (typ tag : Byte) (payload : List Byte), s.Takes q → payload.length ≤ 60 →
     let u := s.setPort q { s.port q with receiver := .hunting, gapTimer := none }
     (permittedLengths typ = none →
       exec (.frameReceived q typ tag payload (frameCrc typ tag payload)) s =
         .next (u.answered q (typ ||| 0x80) tag [1])) ∧
     ∀ lens, permittedLengths typ = some lens → payload.length ∉ lens →
       exec (.frameReceived q typ tag payload (frameCrc typ tag payload)) s =
         .next (u.answered q (typ ||| 0x80) tag [2])) ∧
  (∀ (i : Instr) (q : Port) (s : State), requestPort i = some q → s.inReset = false → s.Quiet →
     (s.port q).link = .up → 6 ≤ (s.port q).tx.length →
     exec i s = .next (s.setPort q { s.port q with
       linkTimer := some (s.now + 1000), overruns := min ((s.port q).overruns + 1) 65535 })) ∧
  ∀ (s : State) (q : Port), s.inReset = false → s.Quiet →
    exec (.txFrameEnd q) s = .next (s.setPort q { s.port q with tx := (s.port q).tx.drop 1 })

/-- R157 and R80: on a DOWN link a request's frame first brings the link UP, clears the orphan marks of the port's
groups with CLAIM_CHANGED to all ports in group order, and queues one ATTENTION if the port's notice set then holds
anything; the request is then taken as on an UP link. -/
def Obligations.LinkReturnPrecedesTheRequest : Prop :=
  (∀ (i : Instr) (q : Port) (s : State), requestPort i = some q → s.inReset = false → (s.port q).link = .down →
    exec i s = exec i (s.linkReturn q)) ∧
  ∀ (q : Port) (s : State), s.Quiet → (s.port q).tx.length < 6 →
    let t := s.linkReturn q
    let gs := allGroups.filter fun g => (s.group g).holder == some q && (s.group g).orphaned
    let noted := fun r => gs.foldl (fun n g => n.record .claimChanged (.group g)) (s.notice r)
    (∀ g, t.group g = if (s.group g).holder = some q then { s.group g with orphaned := false } else s.group g) ∧
    (t.port q = if (noted q).records = [] then { s.port q with link := .up }
      else { s.port q with link := .up, tx := (s.port q).tx ++ [⟨0x7F, 0, []⟩] }) ∧
    t.notice q = { noted q with prompt := false } ∧
    (∀ r, r ≠ q → t.port r = s.port r ∧ t.notice r = noted r) ∧
    t = { s with groups := t.groups, ports := t.ports, notices := t.notices }

/-- R158 with R79 and R44: at the link limit the port is torn down, its groups are orphaned and none of them is MOVING
any more, its waiting service entries go without running, and nothing of the cue ownership, the grid-hold set, the
points, slots and bus changes. ORPHANED is recorded at every port for each group whose mark has just been set, in
group order (R79 step 2); nothing else is recorded where no group of the port is MOVING, nor at a port that is neither
the one lost nor the cue owner. -/
def Obligations.LinkLossTearsDownThePort : Prop :=
  ∀ (s : State) (q : Port) (d : Nat), s.inReset = false → s.Quiet → (s.port q).linkTimer = some d → d ≤ s.now →
    ∃ t, exec (.linkTimerExpiry q) s = .next t ∧
      t.port q = { s.port q with
        link := .down, linkTimer := none, tx := [], enable := false, enableWindow := none } ∧
      (∀ r, r ≠ q → t.port r = s.port r ∨ t.port r = { s.port r with tx := (s.port r).tx ++ [⟨0x7F, 0, []⟩] }) ∧
      (∀ g, (s.group g).holder = some q →
        (t.group g).holder = some q ∧ (t.group g).orphaned = true ∧ (t.group g).state ≠ .moving ∧
        ((s.group g).state ≠ .moving → t.group g = { s.group g with orphaned := true })) ∧
      (∀ g, (s.group g).holder ≠ some q → t.group g = s.group g) ∧
      (let gs := allGroups.filter fun g => (s.group g).holder == some q && !(s.group g).orphaned
       ∀ r, (∀ g, (s.group g).holder = some q → (s.group g).state ≠ .moving) ∨ (r ≠ q ∧ s.cue.owner ≠ some r) →
        t.notice r = { gs.foldl (fun n g => n.record .orphaned (.group g)) (s.notice r) with prompt := false }) ∧
      t.service = { s.service with portQueue := s.service.portQueue.filter fun e => !(e.port == q) } ∧
      t.cue.owner = s.cue.owner ∧ t.stopUnit = s.stopUnit ∧ t.points = s.points ∧ t.slots = s.slots ∧
      t.bus = s.bus ∧ t.warn = s.warn ∧ t.now = s.now ∧ t.inReset = s.inReset

/-- R159 and R160: ENABLE(1) makes the enable ACTIVE with a window of 200 ms; ENABLE(0) and the window's expiry make
it INACTIVE and send each MOVING group the port holds a stop with cause ENABLE, in group order; any other level is
refused. -/
def Obligations.EnableIsHeldAndLapses : Prop :=
  (∀ (s : State) (q : Port) (tag level : Byte), s.Takes q →
    (level = 1 → exec (.enable q tag level) s =
      .next ((s.setPort q { s.port q with enable := true, enableWindow := some (s.now + 200) }).answered q 0x82 tag
        [0, 1])) ∧
    (level = 0 → (s.port q).enable = false → exec (.enable q tag level) s = .next (s.answered q 0x82 tag [0, 0])) ∧
    (level ≠ 0 → level ≠ 1 → exec (.enable q tag level) s = .next (s.answered q 0x82 tag [3])) ∧
    (level = 0 → (s.port q).enable = true → exec (.enable q tag level) s =
      .next ((((s.setPort q { s.port q with enable := false, enableWindow := none }).stopHeld q .enable).answered q 0x82
        tag [0, 0]).flushPrompts))) ∧
  (∀ (s : State) (q : Port) (d : Nat), s.inReset = false → (s.port q).enableWindow = some d → d ≤ s.now →
    exec (.enableWindowExpiry q) s =
      .next ((s.setPort q { s.port q with enable := false, enableWindow := none }).stopHeld q .enable).flushPrompts) ∧
  ∀ (s : State) (q : Port) (g : GroupId), let t := s.stopHeld q .enable
    t = (allGroups.filter fun k => (s.group k).holder == some q && (s.group k).state == .moving).foldl
      (fun u k => u.stopGroup k .enable) s ∧
    (((s.group g).holder = some q ∧ (s.group g).state = .moving →
      t.group g = if s.AllStill g then ((s.group g).stopped .enable).atRest else (s.group g).stopped .enable) ∧
    (¬ ((s.group g).holder = some q ∧ (s.group g).state = .moving) → t.group g = s.group g)) ∧
    t = { s with groups := t.groups, notices := t.notices, cue := t.cue }

/-! ## Notices and the warning line -/

/-- R168: a notice is suppressed, or counted in its standing record, or appended while there is room, or lost, by the
first case that applies; a prompt is raised exactly when the set goes from empty to non-empty (R165). R169: a notice
for all ports is recorded in each port's own set. R165: at the end of an event each port whose set was prompted has
one ATTENTION queued if its link is UP and its queue holds fewer than 6 frames, and the prompt is gone either way.
That a prompt is acted on at the event's end is the model's reading (log entry 26). -/
def Obligations.NoticesAreRecordedAndPrompted : Prop :=
  ((∀ (n : NoticeSet) (k : NoticeKind) (u : Subject), n.suppress.getLsbD (k.code - 1) = true → n.record k u = n) ∧
   (∀ (n : NoticeSet) (k : NoticeKind) (u : Subject) (pre post : List NoticeRec) (c : Nat),
     n.suppress.getLsbD (k.code - 1) = false → n.records = pre ++ ⟨k, u, c⟩ :: post →
     (∀ r ∈ pre ++ post, ¬ (r.kind = k ∧ r.subject = u)) →
     n.record k u = { n with records := pre ++ ⟨k, u, min (c + 1) 255⟩ :: post }) ∧
   (∀ (n : NoticeSet) (k : NoticeKind) (u : Subject),
     n.suppress.getLsbD (k.code - 1) = false → (∀ r ∈ n.records, ¬ (r.kind = k ∧ r.subject = u)) →
     n.record k u =
       if n.records.length < 32 then
         { n with records := n.records ++ [⟨k, u, 1⟩], prompt := n.prompt || decide (n.records = []) }
       else { n with lost := true }) ∧
   ∀ (s : State) (k : NoticeKind) (u : Subject),
     (∀ q, (s.notifyAll k u).notice q = (s.notice q).record k u) ∧
     s.notifyAll k u = { s with notices := (s.notifyAll k u).notices }) ∧
  ∀ (s : State), let t := s.flushPrompts
    (∀ q, t.port q =
      if (s.notice q).prompt = true ∧ (s.port q).link = .up ∧ (s.port q).tx.length < 6 then
        { s.port q with tx := (s.port q).tx ++ [⟨0x7F, 0, []⟩] }
      else s.port q) ∧
    (∀ q, t.notice q = { s.notice q with prompt := false }) ∧
    t = { s with ports := t.ports, notices := t.notices }

/-- R170: NOTICE_READ returns the oldest records, up to 14, with the number left and the lost marker as it stood,
removes them, and clears the marker exactly when the set is left empty; nothing else changes. R172: NOTICE_MASK
replaces the port's own suppress set, and is refused when it names no kind (bit 31) or one of GROUP_FAULT, RUNAWAY,
ESTOP and MAINS_TRIPPED. -/
def Obligations.NoticesAreReadAndMasked : Prop :=
  (∀ (s : State) (q : Port) (tag : Byte), s.Takes q →
     let n := s.notice q
     exec (.noticeRead q tag) s =
       .next ((s.setNotice q { n with
           records := n.records.drop 14
           lost := if n.records.length ≤ 14 then false else n.lost }).answered q 0x83 tag
         (0 :: byte (n.records.length - 14) :: boolByte n.lost :: (n.records.take 14).flatMap fun r =>
           byte r.kind.code :: r.subject.bytes ++ [byte r.count]))) ∧
  ∀ (s : State) (q : Port) (tag : Byte) (kinds : BitVec 32), s.Takes q →
    exec (.noticeMask q tag kinds) s =
      if kinds.getLsbD 31 ∨ kinds.getLsbD 16 ∨ kinds.getLsbD 21 ∨ kinds.getLsbD 22 ∨ kinds.getLsbD 24 then
        .next (s.answered q 0x84 tag [3])
      else .next ((s.setNotice q { s.notice q with suppress := kinds }).answered q 0x84 tag (0 :: bytes4 kinds))

/-- R174 and R173: WARN_CONFIG stores five enables and a polarity, and answers them with the causes that hold and
whether WARN is active; WARN is active while an enabled cause of Table 9-3 holds, and the line follows it under the
polarity. -/
def Obligations.WarnFollowsItsCauses : Prop :=
  (∀ (s : State) (q : Port) (tag enables polarity : Byte), s.Takes q →
    (enables.toNat < 32 → ∀ p, polarityOf polarity = some p →
      let w : Warn := ⟨enables.getLsbD 0, enables.getLsbD 1, enables.getLsbD 2, enables.getLsbD 3, enables.getLsbD 4, p⟩
      let u := s.setWarn w
      exec (.warnConfig q tag enables polarity) s =
        .next (u.answered q 0x85 tag
          [0, enables, polarity,
            causeByte u.overloadHolds u.faultHolds u.holdHolds u.stopUnit.estop u.runawayHolds,
            boolByte u.warnActive])) ∧
    (32 ≤ enables.toNat ∨ 2 ≤ polarity.toNat → exec (.warnConfig q tag enables polarity) s =
      .next (s.answered q 0x85 tag [3]))) ∧
  ∀ s : State, s.inReset = false →
    (s.warnActive = true ↔
      (s.warn.overload = true ∧ ∃ p, (s.point p).load.overload.active = true) ∨
      (s.warn.fault = true ∧ ∃ g, (s.group g).state = .fault) ∨
      (s.warn.hold = true ∧ ∃ q, s.stopUnit.hold.get q = true) ∨
      (s.warn.estop = true ∧ s.stopUnit.estop = true) ∨
      (s.warn.runaway = true ∧ ∃ p, (s.point p).stop.runaway = true)) ∧
    (s.warnLine = .high ↔ (s.warnActive = true ↔ s.warn.polarity = .activeHigh))

/-! ## Reads -/

/-- R19, R20, R67, R136 and Table 10-4: the reads of points and slots answer the fields in their order, are refused
outside their ranges, and change nothing. R85, R117, R177, R136, R152, R166 and Table 10-4: the reads of groups,
motion, the stop unit, the cue engine and the ports answer the fields in their order, are refused outside their
ranges, and change nothing. The line level's code is the model's reading (log entry 13). -/
def Obligations.ReadsAnswerTheTables : Prop :=
  (∀ (s : State) (q : Port) (tag : Byte), s.Takes q →
     (∀ b p, pointOf b = some p → let r := s.point p; let l := r.load; let t := r.stop
       exec (.pointRead q tag b) s = .next (s.answered q 0x92 tag
         ([0, boolByte r.identity.isSome] ++ optIdentity r.identity ++ int3 r.softMin ++ int3 r.softMax ++ int2 r.trim ++
           [optSlot r.boundSlot, optSlot r.lastSlot] ++ optPos (s.pos p) ++ loadBytes l.value ++
           [optGroup r.group, flagsByte t])) ∧
       exec (.loadRead q tag b) s = .next (s.answered q 0xA6 tag
         ([0, BitVec.ofBool l.dutyHot ++ BitVec.ofBool l.underload.exitSeen ++ BitVec.ofBool l.underload.active ++
             BitVec.ofBool l.overload.exitSeen ++ BitVec.ofBool l.overload.active ++ BitVec.ofBool l.discardNext ++
             BitVec.ofBool l.calFault ++ BitVec.ofBool l.cal.isSome] ++
           (match l.cal with
             | some c => nat2 c.zero ++ nat2 c.span ++ nat2 c.wll
             | none => [0, 0, 0, 0, 0, 0]) ++
           [byte l.window.length] ++ loadBytes l.value ++ nat2 l.high ++ nat2 l.low ++ nat2 l.hyst ++ [l.alarm.code] ++
           nat2 l.duty ++ nat2 l.dutyLimit)) ∧
       exec (.stopRead q tag b) s = .next (s.answered q 0xD6 tag
         ([0, flagsByte t, modesByte t.modes, masksByte t.masks, indicationByte (s.accepted p),
           boolByte r.lastRun.isSome] ++
           match r.lastRun with
           | some m => nat2 (min (s.now - m) 65535)
           | none => [0, 0]))) ∧
     (∀ b, pointOf b = none →
       exec (.pointRead q tag b) s = .next (s.answered q 0x92 tag [3]) ∧
       exec (.loadRead q tag b) s = .next (s.answered q 0xA6 tag [3]) ∧
       exec (.stopRead q tag b) s = .next (s.answered q 0xD6 tag [3])) ∧
     ∀ first count : Byte,
       exec (.slotRead q tag first count) s =
         if first.toNat ≤ 47 ∧ 1 ≤ count.toNat ∧ count.toNat ≤ 7 ∧ first.toNat + count.toNat ≤ 48 then
           .next (s.answered q 0x93 tag
             (0 :: ((s.slots.toList.drop first.toNat).take count.toNat).flatMap fun r =>
               r.state.code :: optIdentity r.identity ++ [optPoint r.point, byte r.presence, byte r.miss]))
         else .next (s.answered q 0x93 tag [3])) ∧
  ∀ (s : State) (q : Port) (tag : Byte), s.Takes q →
    (∀ b g, groupOf b = some g → let r := s.group g
      exec (.groupRead q tag b) s = .next (s.answered q 0xB5 tag
        ([0, optPort r.holder, boolByte r.orphaned, byte r.bands.pause, byte r.bands.resume] ++ nat2 r.bands.trip ++
          [byte r.bands.share, byte r.bands.tolerance, r.state.code, r.kind.code, r.dir.code] ++ faultBytes r.fault ++
          [byte r.members.length] ++ r.members.map fun m => pointByte m.point)) ∧
      ∀ first : Option Byte, let f := (first.getD 0).toNat
        exec (.motionRead q tag b first) s =
          if f ≤ r.members.length then
            .next (s.answered q 0xC6 tag
              ([0, r.state.code, r.kind.code, r.dir.code, r.origin.code] ++ int3 r.applied ++ faultBytes r.fault ++
                [orByte 0 StopCause.code r.stopCause, byte r.members.length, byte f] ++
                ((r.members.drop f).take 2).flatMap fun m =>
                  [pointByte m.point, m.state.code] ++ optPos (s.pos m.point) ++ optPos m.startPos ++ optPos m.target ++
                    optKg m.baseline ++ optPos m.releasePos ++ [byte m.settle] ++
                    loadBytes (s.point m.point).load.value ++ [byte (s.point m.point).stopLead] ++
                    optLead (if r.state = .moving then s.lead g m else none)))
          else .next (s.answered q 0xC6 tag [3])) ∧
    (∀ b, groupOf b = none →
      exec (.groupRead q tag b) s = .next (s.answered q 0xB5 tag [3]) ∧
      ∀ first, exec (.motionRead q tag b first) s = .next (s.answered q 0xC6 tag [3])) ∧
    exec (.stopStatus q tag) s = .next (s.answered q 0xD7 tag
      ([0, boolByte s.stopUnit.estop, s.stopUnit.mains.code] ++ s.stopUnit.tripCause.bytes ++
        [portSetByte s.stopUnit.hold, byte (allPoints.filter fun p => (s.point p).stop.runaway).length,
          optPoint (allPoints.find? fun p => (s.point p).stop.runaway)])) ∧
    (∀ first count : Byte, let c := s.cue
      exec (.cueRead q tag first count) s =
        if count.toNat ≤ 6 ∧ (count = 0 ∨ first.toNat + count.toNat ≤ c.list.length) then
          .next (s.answered q 0xE9 tag
            ([0, c.state.code, optPort c.owner, c.source.code, c.mode.code, levelCode c.level, boolByte c.rearm.isSome,
              byte c.list.length, byte c.pointer, optGroup c.firedGroup, optCue c.firedIndex] ++ stallBytes c.stall ++
              ((c.list.drop first.toNat).take count.toNat).flatMap fun e =>
                [groupByte e.group, e.action.code] ++ int3 e.value ++ [boolByte e.follow]))
        else .next (s.answered q 0xE9 tag [3])) ∧
    exec (.portStatus q tag) s = .next (s.answered q 0x81 tag
      (0 :: ([Port.a, Port.b, Port.c].map fun r =>
          (0 : BitVec 6) ++ BitVec.ofBool (s.port r).enable ++ BitVec.ofBool (decide ((s.port r).link = .up))) ++
        [portByte q] ++ nat2 (s.port q).errors ++ nat2 (s.port q).overruns ++
        [byte (s.notice q).records.length, boolByte (s.notice q).lost, 0x0C, 0x48, 1]))

/-! ## The Point Directory -/

/-- R14: the checks of PATCH_POINT in their order; a refused request changes nothing. R14 to R16: an accepted
PATCH_POINT clamps and stores the limits and trim and answers the directory fields. With the point's own identity
nothing else changes; with a new one the point leaves its slot, which becomes FOREIGN, an active job that concerns it
is marked for its result to be discarded (the mark is the model's own, log entry 37), its calibration is dropped with
a window restart, and the lowest-numbered FOREIGN slot that carries the identity is bound, with a calibration entry
for it. -/
def Obligations.PatchPointChecksAndBinds : Prop :=
  (∀ (s : State) (q : Port) (tag b : Byte) (x : Identity) (lo hi : Word24) (tr : Word16), s.Takes q →
     let l := max (-1000) (min 66535 lo.toInt)
     let h := max (-1000) (min 66535 hi.toInt)
     let no := fun code => exec (.patchPoint q tag b x lo hi tr) s = .next (s.answered q 0x90 tag [code])
     (pointOf b = none → no 3) ∧
     ∀ p, pointOf b = some p →
       (x = 0 ∨ x = 0xFFFFFFFF → no 3) ∧
       (l + 100 > h → no 3) ∧
       ((∃ p', p' ≠ p ∧ (s.point p').identity = some x) → no 3) ∧
       (x ≠ 0 → x ≠ 0xFFFFFFFF → l + 100 ≤ h → (∀ p', p' ≠ p → (s.point p').identity ≠ some x) →
         ∀ g, (s.point p).group = some g → (s.group g).state = .moving ∨ (s.group g).state = .stopping → no 6)) ∧
  ∀ (s : State) (q : Port) (tag b : Byte) (x : Identity) (lo hi : Word24) (tr : Word16) (p : PointId), s.Takes q →
    s.BindingSound → pointOf b = some p → x ≠ 0 → x ≠ 0xFFFFFFFF →
    let l := max (-1000) (min 66535 lo.toInt)
    let h := max (-1000) (min 66535 hi.toInt)
    let v := max (-1000) (min 1000 tr.toInt)
    l + 100 ≤ h → (∀ p', p' ≠ p → (s.point p').identity ≠ some x) →
    (∀ g, (s.point p).group = some g → (s.group g).state ≠ .moving ∧ (s.group g).state ≠ .stopping) →
    let fields := fun (u : State) => [0, 1] ++ bytes4 x ++ int3 l ++ int3 h ++ int2 v ++
      [optSlot (u.point p).boundSlot, optSlot (u.point p).lastSlot]
    ((s.point p).identity = some x →
      let u := s.setPoint p { s.point p with softMin := l, softMax := h, trim := v }
      exec (.patchPoint q tag b x lo hi tr) s = .next (u.answered q 0x90 tag (fields u))) ∧
    ((s.point p).identity ≠ some x →
      let left : State := match (s.point p).boundSlot with
        | some n => (((s.setSlot n { s.slot n with
            state := .foreign, point := none, candidate := none, accepted := none }).dropJoin n).notifyAll
              .nodeForeign (.slot n)).setActive (s.service.active.map fun (j : Job) =>
                if j.point = some p then { j with discard := true } else j)
        | none => s
      let clean : PointRec := { s.point p with
        identity := some x, softMin := l, softMax := h, trim := v, boundSlot := none, raw := none
        load := { (s.point p).load with
          cal := none, calFault := false, window := [], discardNext := true, value := .absent } }
      let u := left.setPoint p clean
      (∀ n, (∀ k, k < n → ¬ ((u.slot k).state = .foreign ∧ (u.slot k).identity = some x)) →
        (u.slot n).state = .foreign → (u.slot n).identity = some x →
        let w := ((u.setSlot n { u.slot n with
            state := .bound, point := some p, candidate := none, accepted := none }).setPoint p
          { clean with boundSlot := some n, lastSlot := some n, lastRun := none }).notifyAll .nodeJoined (.point p)
        exec (.patchPoint q tag b x lo hi tr) s =
          .next (((w.setJoinList (w.service.joinList ++ [⟨n, .calibration⟩])).startJob).answered q 0x90 tag
            (fields w)).flushPrompts) ∧
      ((∀ k, ¬ ((u.slot k).state = .foreign ∧ (u.slot k).identity = some x)) →
        exec (.patchPoint q tag b x lo hi tr) s = .next (u.answered q 0x90 tag (fields u)).flushPrompts))

/-- R17: UNPATCH of a patched point performs steps 1 and 2 of R16, the discard of an active job that concerns it among
them, and removes the identity; the limits and trim stay. Of an unpatched point it changes nothing. The mark by which
the discard is kept is the model's own (log entry 37). -/
def Obligations.UnpatchFreesThePoint : Prop :=
  ∀ (s : State) (q : Port) (tag b : Byte), s.Takes q →
    (pointOf b = none → exec (.unpatch q tag b) s = .next (s.answered q 0x91 tag [3])) ∧
    ∀ p, pointOf b = some p →
      let r := s.point p
      let fields := fun (x : Option Identity) (n : Option SlotId) =>
        [0, boolByte x.isSome] ++ optIdentity x ++ int3 r.softMin ++ int3 r.softMax ++ int2 r.trim ++
          [optSlot n, optSlot r.lastSlot]
      (∀ g, r.group = some g → (s.group g).state = .moving ∨ (s.group g).state = .stopping →
        exec (.unpatch q tag b) s = .next (s.answered q 0x91 tag [6])) ∧
      ((∀ g, r.group = some g → (s.group g).state ≠ .moving ∧ (s.group g).state ≠ .stopping) →
        (r.identity = none →
          exec (.unpatch q tag b) s = .next (s.answered q 0x91 tag (fields none r.boundSlot))) ∧
        (r.identity ≠ none →
          let left : State := match r.boundSlot with
            | some n => (((s.setSlot n { s.slot n with
                state := .foreign, point := none, candidate := none, accepted := none }).dropJoin n).notifyAll
                  .nodeForeign (.slot n)).setActive (s.service.active.map fun (j : Job) =>
                    if j.point = some p then { j with discard := true } else j)
            | none => s
          let clean : PointRec := { r with
            identity := none, boundSlot := none, raw := none
            load := { r.load with
              cal := none, calFault := false, window := [], discardNext := true, value := .absent } }
          r.boundSlot ≠ none ∨ r.raw = none →
          exec (.unpatch q tag b) s =
            .next ((left.setPoint p clean).answered q 0x91 tag (fields none none)).flushPrompts))

/-! ## The Hoist Bus -/

/-- R33: BUS_CONFIG is refused on its arguments, then while a group is MOVING or STOPPING; accepted, it sets the epoch
length and the acceptance mode, restarts the frame position, restarts every window and drops every candidate. That the
position reads 0 at once and a flag holds the next frame at 0 is the model's choice (log entry 12). -/
def Obligations.BusConfigRestartsTheBus : Prop :=
  ∀ (s : State) (q : Port) (tag e m : Byte), s.Takes q →
    ((epochOf e = none ∨ acceptModeOf m = none) →
      exec (.busConfig q tag e m) s = .next (s.answered q 0x94 tag [3])) ∧
    ∀ E M, epochOf e = some E → acceptModeOf m = some M →
      ((∃ g, (s.group g).state = .moving ∨ (s.group g).state = .stopping) →
        exec (.busConfig q tag e m) s = .next (s.answered q 0x94 tag [6])) ∧
      ((∀ g, (s.group g).state ≠ .moving ∧ (s.group g).state ≠ .stopping) →
        exec (.busConfig q tag e m) s =
          .next (({ s with
            bus := { s.bus with epoch := E, mode := M, framePos := 0, restart := true }
            points := Vector.ofFn fun p => { s.point p with
              load := { (s.point p).load with window := [], discardNext := true, value := .absent } }
            slots := Vector.ofFn fun n => { s.slot n with candidate := none } } : State).answered q 0x94 tag [0, e, m]))

/-- R31 and Table 2-4: a slot's effective command is UP or DOWN exactly when it is BOUND to a point whose member is in
RUN in a MOVING group of that direction (R87), the mains is CLOSED, and no set and enabled flag blocks the
direction. -/
def Obligations.EffectiveCommandLaw : Prop :=
  ∀ (s : State) (n : SlotId) (d : Dir), s.MembershipSound →
    (s.effective n = d.command ↔
      ∃ p g m, (s.slot n).state = .bound ∧ (s.slot n).point = some p ∧ s.stopUnit.mains = .closed ∧
        (s.group g).state = .moving ∧ (s.group g).dir = d ∧ m ∈ (s.group g).members ∧ m.point = p ∧ m.state = .run ∧
        (s.point p).group = some g ∧
        match d with
        | .up => ∀ k : StopKind, k = .upper ∨ k = .thermal →
          (s.point p).stop.flags.get k = true → (s.point p).stop.masks.get k = false
        | .down => ∀ k : StopKind, k = .lower ∨ k = .slack ∨ k = .thermal →
          (s.point p).stop.flags.get k = true → (s.point p).stop.masks.get k = false)

/-- R21, R22 and R32: a new frame moves the position on, sends every slot its effective command, the epoch mark in the
frame at position 0, and octet 0xFF with IDLE unless it carries the active job, and marks the points that were sent UP
or DOWN with its time. R36 to R38 for the slot of an active job: it carries nothing while IDLE fields are owed there,
then the byte in progress of the job's message (Table 10-9) under its phase, END with 0xFF in two fields, IDLE and the
echoes of the phases taken, or ABORT with 0xFF in two fields; the frame count rises, the first IDLE field after END
begins the wait for the response, and the second ABORT field fails the job. A transfer whose item has had its 64
frames fails before the fields go out. The model's choices: time in ms at 2 a frame (log entry 2), that a pair starts
anew with the response (16), the moment an eighth byte's job fails (17), and which failures owe IDLE fields (18). -/
def Obligations.FrameSendsEffectiveCommands : Prop :=
  (∀ s : State, s.inReset = false → s.Quiet → s.bus.framePos < s.bus.epoch.frames →
    let pos := if s.bus.restart then 0 else if s.bus.framePos + 1 = s.bus.epoch.frames then 0 else s.bus.framePos + 1
    let sent := fun (carried : SlotId → Byte × Mark) => { s with
      now := s.now + 2
      bus := { s.bus with
        framePos := pos
        restart := false
        downstream := Vector.ofFn fun n => ⟨s.effective n, decide (pos = 0), (carried n).1, (carried n).2⟩ }
      points := Vector.ofFn fun p => { s.point p with
        lastRun := if ∃ n, (s.point p).boundSlot = some n ∧ (s.slot n).state = .bound ∧ (s.slot n).point = some p ∧
            s.effective n ≠ .stop
          then some (s.now + 2) else (s.point p).lastRun }
      slots := Vector.ofFn fun n => { s.slot n with idleOwed := (s.slot n).idleOwed - 1 } }
    (s.service.active = none → exec .frame s = .next (sent fun _ => (0xFF, .idle))) ∧
    ∀ j, s.service.active = some j →
      (j.phase = .sending ∨ j.phase = .receiving → 64 ≤ j.count → exec .frame s = exec .frame (s.endJob .timeout)) ∧
      (¬ ((j.phase = .sending ∨ j.phase = .receiving) ∧ 64 ≤ j.count) →
        let waits := j.phase = .sending ∧ 0 < (s.slot j.slot).idleOwed
        let part : Byte × Mark := if waits then (0xFF, .idle) else match j.phase with
          | .sending => (j.message.getD j.index 0xFF, if j.index % 2 = 0 then .phase0 else .phase1)
          | .ending k => (0xFF, if k < 2 then .fourth else .idle)
          | .receiving => (0xFF, if j.response.length = 0 then .idle
              else if j.response.length % 2 = 1 then .phase0 else .phase1)
          | .aborting _ => (0xFF, .fourth)
        let u := sent fun n => if n = j.slot then part else (0xFF, .idle)
        let after := fun (k : Job) =>
          Host.Outcome.next (φ := Fault) (ρ := Refusal) (u.setService { s.service with active := some k })
        exec .frame s = match j.phase with
          | .sending => if waits then .next u else after { j with count := j.count + 1 }
          | .ending 0 => after { j with phase := .ending 1 }
          | .ending 1 => after { j with phase := .ending 2 }
          | .ending _ => after { j with phase := .receiving, count := 1, prev := none }
          | .receiving => after { j with count := j.count + 1 }
          | .aborting 0 => after { j with phase := .aborting 1 }
          | .aborting _ => .next (u.endJob .aborted).flushPrompts)) ∧
  ∀ j : Job, (j.kind = .ident → j.message = [1]) ∧ (j.kind = .calRead → j.message = [2]) ∧
    ∀ c, j.kind = .calWrite → j.write = some c → j.message = 3 :: nat2 c.zero ++ nat2 c.span ++ nat2 c.wll

/-- R7, R8, R23, R24, R29: what a field does to the counters of a slot: the fourth consecutive valid field of an EMPTY
slot makes it JOINING with a full join entry, and an invalid field clears or raises the counters and breaks an
indication pair and a pair of service values (R27, R35); the eighth in a row loses the slot. The presence event by
itself is SLOT_JOINING, by the model's reading (log entry 8). A valid field of a JOINING or FOREIGN slot clears the
miss counter and records the sequence, and its position, indication and sample go nowhere (R25, R26, R29). Whatever
the slot's state, the field's octet and mark come last, to the Service Engine, which acts on them when the slot
carries the active job (R24 step 5). R24 and R30 for a valid field of a BOUND slot whose point is in no group, whose
indication is already accepted: the field stores the position and the sequence, and delivers a load sample arrival
exactly when the sequence differs from a recorded one. -/
def Obligations.FieldsCountAndDeliverSamples : Prop :=
  (∀ (s : State) (n : SlotId), s.inReset = false → s.Quiet →
     let r := s.slot n
     let joins := fun (q : Option (BitVec 4)) =>
       let u := s.setSlot n { r with state := .joining, presence := 4, miss := 0, lastSeq := q }
       (u.setJoinList (u.service.joinList ++ [⟨n, .full⟩])).startJob
     let broken := match s.service.active with
       | some j => if j.slot = n then s.setService { s.service with active := some { j with prev := none } } else s
       | none => s
     (∀ u, upValid u = true → r.state = .empty → r.presence + 1 < 4 →
       exec (.upstreamField n (some u)) s =
         .next ((s.setSlot n { r with presence := r.presence + 1, lastSeq := some (upSeq u) }).serviceTaken n u.b5
           (upMark u)).flushPrompts) ∧
     (∀ u, upValid u = true → r.state = .empty → 4 ≤ r.presence + 1 →
       exec (.upstreamField n (some u)) s =
         .next ((joins (some (upSeq u))).serviceTaken n u.b5 (upMark u)).flushPrompts) ∧
     (∀ u, upValid u = true → r.state = .joining ∨ r.state = .foreign →
       exec (.upstreamField n (some u)) s =
         .next ((s.setSlot n { r with miss := 0, lastSeq := some (upSeq u) }).serviceTaken n u.b5
           (upMark u)).flushPrompts) ∧
     (r.state = .empty → 4 ≤ r.presence + 1 → exec (.slotJoining n) s = .next (joins r.lastSeq)) ∧
     (∀ f, (f = none ∨ ∃ u, f = some u ∧ upValid u = false) →
       (r.state = .empty → exec (.upstreamField n f) s = .next (broken.setSlot n { r with presence := 0 })) ∧
       (r.state ≠ .empty → r.miss + 1 < 8 → exec (.upstreamField n f) s =
         .next (broken.setSlot n { r with miss := r.miss + 1, candidate := none })) ∧
       (r.state ≠ .empty → 8 ≤ r.miss + 1 → exec (.upstreamField n f) s = exec (.slotLost n) broken))) ∧
  ∀ (s : State) (n : SlotId) (p : PointId) (u : UpField), s.inReset = false → s.Quiet →
    (s.slot n).state = .bound → (s.slot n).point = some p → upValid u = true → (s.point p).group = none →
    upIndication u ≠ none → (s.slot n).accepted = upIndication u →
    let t := (s.setPoint p { s.point p with raw := some (upPosition u) }).setSlot n { s.slot n with
      miss := 0, candidate := upIndication u, lastSeq := some (upSeq u) }
    exec (.upstreamField n (some u)) s =
      if (s.slot n).lastSeq = none ∨ (s.slot n).lastSeq = some (upSeq u) then
        .next (t.serviceTaken n u.b5 (upMark u)).flushPrompts
      else .next ((t.loadArrival n p (upCode u)).serviceTaken n u.b5 (upMark u)).flushPrompts

/-- R9 and Table 1-4: a lost slot enters EMPTY, its join entry goes, its active job fails, and a point it carried is
unbound, which faults a MOVING or STOPPING group of the point with NODE_LOST; no other slot and no other point
changes. The effects come in this order, which is the model's reading (log entry 23), as are the two IDLE fields that
the lost job owes the slot (18): the unbinding and the fault, the failure of the slot's own active job with LOST and
SERVICE_FAILED to its recipients (an IDENT has none), NODE_LOST with the point of a BOUND slot and with a FOREIGN
slot, nothing for a JOINING one, and the choice of the next job. -/
def Obligations.SlotLossEmptiesAndUnbinds : Prop :=
  ∀ (s : State) (n : SlotId), s.inReset = false → s.Quiet → s.BindingSound → (s.slot n).state ≠ .empty →
    8 ≤ (s.slot n).miss + 1 →
    let gone : State := (s.setSlot n { SlotRec.reset with idleOwed := (s.slot n).idleOwed }).setService { s.service with
      joinList := s.service.joinList.filter fun e => !(e.slot == n) }
    let freed : State := match (s.slot n).point with
      | some p =>
        let u := gone.setPoint p { s.point p with
          boundSlot := none, raw := none
          load := { (s.point p).load with window := [], discardNext := true, value := .absent } }
        match (s.point p).group with
        | some g => u.faultGroup g .nodeLost (some p)
        | none => u
      | none => gone
    let failed : State := match s.service.active with
      | some j =>
        if j.slot = n then
          let u := (freed.setService { freed.service with active := none }).setSlot n { SlotRec.reset with idleOwed := 2 }
          match j.origin, j.point with
          | .port q, some p => u.notify q .serviceFailed (.point p)
          | .port _, none => u
          | _, some p => if j.kind = ServiceKind.ident then u else u.notifyAll .serviceFailed (.point p)
          | _, none => u
        else freed
      | none => freed
    let told : State := match (s.slot n).state, (s.slot n).point with
      | .bound, some p => failed.notifyAll .nodeLost (.point p)
      | .foreign, _ => failed.notifyAll .nodeLost (.slot n)
      | _, _ => failed
    ∃ t, exec (.slotLost n) s = .next t ∧ t = told.startJob.flushPrompts ∧
      (t.slot n).state = .empty ∧ (t.slot n).identity = none ∧ (t.slot n).point = none ∧ (t.slot n).presence = 0 ∧
      (t.slot n).miss = 0 ∧ (t.slot n).candidate = none ∧ (t.slot n).accepted = none ∧ (t.slot n).lastSeq = none ∧
      (∀ e ∈ t.service.joinList, e.slot ≠ n) ∧
      (∀ j, t.service.active = some j → j.slot ≠ n) ∧
      (∀ k, k ≠ n → t.slot k = s.slot k) ∧
      (∀ p, (s.slot n).point = some p →
        t.point p = { s.point p with
          boundSlot := none, raw := none
          load := { (s.point p).load with window := [], discardNext := true, value := .absent } } ∧
        ∀ g, (s.point p).group = some g →
          t.group g = if (s.group g).state.active then (s.group g).faulted .nodeLost (some p) else s.group g) ∧
      (∀ p, (s.slot n).point ≠ some p → t.point p = s.point p) ∧
      ((∀ j, s.service.active = some j → j.slot ≠ n) → s.service.active ≠ none →
        (∀ p, (s.slot n).point = some p → s.pointActive p = false) → ∀ q,
        t.notice q = match (s.slot n).state, (s.slot n).point with
          | .bound, some p => { (s.notice q).record .nodeLost (.point p) with prompt := false }
          | .foreign, _ => { (s.notice q).record .nodeLost (.slot n) with prompt := false }
          | _, _ => s.notice q)

/-- R25 to R28, R119 and R24 for a valid field of a BOUND slot: the position is stored, the candidate becomes the
field's indication, the accepted indication takes it at once in SINGLE mode and on a pair in DOUBLE mode, each stop
flag follows Table 6-2, the sequence is recorded, and no other slot or point changes. The field is taken in the order
of R24: the position report, the candidate, an indication change with its delivery to the Stop Unit and, where the
motion sense changes, to the Motion Engine, the load sample arrival when the sequence differs from a recorded one, and
the octet and mark for the Service Engine. The order of the two deliveries is a free value, and the flags do not depend
on it (log entry 10). -/
def Obligations.BoundFieldIsTakenApart : Prop :=
  ∀ (s : State) (n : SlotId) (p : PointId) (u : UpField), s.inReset = false → s.Quiet → s.BindingSound →
    (s.slot n).state = .bound → (s.slot n).point = some p → upValid u = true →
    let v := upIndication u
    let takes := v ≠ none ∧ (s.bus.mode = .single ∨ (s.slot n).candidate = v)
    let before := (s.slot n).accepted
    let a := ((s.setSlot n { s.slot n with miss := 0 }).setPoint p { s.point p with
      raw := some (upPosition u) }).positionReport p
    let b := a.setSlot n { s.slot n with miss := 0, candidate := v }
    let c := match v with
      | some w =>
        if takes ∧ before ≠ v then
          let d := { a.setSlot n { s.slot n with miss := 0, candidate := v, accepted := v } with choice := s.choice + 1 }
          let motion := fun (x : State) => if before.map Indication.sense = some w.sense then x else x.senseChange p w.sense
          if Config.stopUnitFirst s.choice then motion (d.stopUnitChange p before w)
          else (motion d).stopUnitChange p before w
        else b
      | none => b
    let e := c.setSlot n { c.slot n with lastSeq := some (upSeq u) }
    let f := if (s.slot n).lastSeq = none ∨ (s.slot n).lastSeq = some (upSeq u) then e else e.loadArrival n p (upCode u)
    ∃ t, exec (.upstreamField n (some u)) s = .next t ∧ t = (f.serviceTaken n u.b5 (upMark u)).flushPrompts ∧
      (t.point p).raw = some (upPosition u) ∧
      t.slot n = { s.slot n with
        miss := 0
        candidate := v
        accepted := if takes then v else (s.slot n).accepted
        lastSeq := some (upSeq u)
        idleOwed := (t.slot n).idleOwed } ∧
      (∀ k, k ≠ n → t.slot k = s.slot k) ∧ (∀ p', p' ≠ p → t.point p' = s.point p') ∧
      (t.point p).stop.modes = (s.point p).stop.modes ∧ (t.point p).stop.masks = (s.point p).stop.masks ∧
      (∀ k : StopKind, (t.point p).stop.flags.get k =
        if takes ∧ (s.slot n).accepted ≠ v then
          let before := match (s.slot n).accepted with
            | some w => w.stops.get k
            | none => false
          let now := match v with
            | some w => w.stops.get k
            | none => false
          match (s.point p).stop.modes.get k with
          | .level => (s.point p).stop.flags.get k || now
          | .edge => (s.point p).stop.flags.get k || (now && !before)
        else (s.point p).stop.flags.get k)

/-! ## Service jobs -/

/-- R41: with no active job the oldest join entry starts, a full one as IDENT and a calibration one as CAL_READ of the
slot's point; with no join entry the oldest port entry whose point is still bound to its slot starts, and each older
one ends LOST with SERVICE_FAILED to its port (R42); where every entry's point has left its slot all of them end so,
and the queue is empty with no job active. With a job active nothing starts. -/
def Obligations.ServiceJobsStartInOrder : Prop :=
  ∀ s : State, s.inReset = false → s.Quiet →
    (s.service.active ≠ none → exec .serviceJobStart s = .next s) ∧
    (s.service.active = none → s.service.joinList = [] → s.service.portQueue = [] →
      exec .serviceJobStart s = .next s) ∧
    (∀ e rest, s.service.active = none → s.service.joinList = e :: rest →
      exec .serviceJobStart s = .next (s.setService { s.service with
        joinList := rest
        active := some
          { slot := e.slot
            kind := if e.kind = .full then .ident else .calRead
            origin := if e.kind = .full then .join else .calibration
            point := if e.kind = .full then none else (s.slot e.slot).point
            write := none
            phase := .sending
            index := 0
            response := []
            count := 0
            prev := none
            discard := false } })) ∧
    (s.service.active = none → s.service.joinList = [] →
      (∀ x ∈ s.service.portQueue, (s.point x.point).boundSlot ≠ some x.slot) →
      exec .serviceJobStart s =
        .next ((s.service.portQueue.foldl (fun u x => u.notify x.port .serviceFailed (.point x.point)) s).setService
          ⟨none, [], []⟩).flushPrompts) ∧
    ∀ lost e rest, s.service.active = none → s.service.joinList = [] → s.service.portQueue = lost ++ e :: rest →
      (∀ x ∈ lost, (s.point x.point).boundSlot ≠ some x.slot) → (s.point e.point).boundSlot = some e.slot →
      exec .serviceJobStart s = .next ((lost.foldl (fun u x => u.notify x.port .serviceFailed (.point x.point)) s).setService
        { s.service with
          portQueue := rest
          active := some
            { slot := e.slot
              kind := if e.write = none then .calRead else .calWrite
              origin := .port e.port
              point := some e.point
              write := e.write
              phase := .sending
              index := 0
              response := []
              count := 0
              prev := none
              discard := false } }).flushPrompts

/-- R35 to R38 for the active job's slot: a byte is acknowledged when its phase is the upstream mark of two valid
fields in a row, whatever their octets; the last acknowledgement brings END; ABORT seen twice ends the transfer; a
response byte is taken when octet and expected phase are seen twice, and END with 0xFF completes the response. Every
other field of the slot moves nothing and is only kept for the next one to be compared with: a first sighting, a phase
that is not the expected one (a repeat of the byte taken before), an END with another octet; a field before the byte
in progress is placed is not kept either, and a field of another slot does nothing. R36 and R37: SERVICE_TIMEOUT fails
a transfer whose awaited item has had its 64 frames, as SERVICE_JOB_END with TIMEOUT does. That SERVICE_TIMEOUT given
earlier changes nothing is the model's choice (log entry 8), as are the readings of "seen twice" that log entries 15
and 16 name. -/
def Obligations.ServiceBytesMoveOnPairsOrTimeOut : Prop :=
  (∀ (s : State) (j : Job) (o o' : Byte) (m : Mark), s.service.active = some j → j.prev = some (o', m) →
     let next := fun (j' : Job) => s.setService { s.service with active := some j' }
     (j.phase = .sending → 0 < j.count → m = (if j.index % 2 = 0 then .phase0 else .phase1) →
       s.serviceTaken j.slot o m =
         if j.index + 1 < j.message.length then
           next { j with index := j.index + 1, count := 0, prev := some (o, m) }
         else next { j with phase := .ending 0, count := 0, prev := some (o, m) }) ∧
     (j.phase = .sending → 0 < j.count → m = .fourth → o = o' →
       s.serviceTaken j.slot o m = s.endJob .aborted) ∧
     (∀ k, j.phase = .ending k → m = .fourth → o = o' → s.serviceTaken j.slot o m = s.endJob .aborted) ∧
     (j.phase = .receiving → o = o' → m = (if j.response.length % 2 = 0 then .phase0 else .phase1) →
       j.response.length < 7 → s.serviceTaken j.slot o m =
         next { j with response := j.response ++ [o], count := 0, prev := some (o, m) }) ∧
     (j.phase = .receiving → o = o' → m = (if j.response.length % 2 = 0 then .phase0 else .phase1) →
       7 ≤ j.response.length → s.serviceTaken j.slot o m =
         next { j with phase := .aborting 0, count := 0, prev := some (o, m) }) ∧
     (j.phase = .receiving → o = 0xFF → o' = 0xFF → m = .fourth →
       s.serviceTaken j.slot o m = s.endJob (.response j.response))) ∧
  (∀ (s : State) (j : Job) (n : SlotId) (o : Byte) (m : Mark), s.service.active = some j →
     let kept := s.setService { s.service with active := some { j with prev := some (o, m) } }
     let twice := j.prev = some (o, m)
     let markTwice := ∃ o', j.prev = some (o', m)
     (n ≠ j.slot → s.serviceTaken n o m = s) ∧
     (j.phase = .sending → j.count = 0 → s.serviceTaken j.slot o m = s) ∧
     (j.phase = .sending → 0 < j.count → ¬ (markTwice ∧ m = (if j.index % 2 = 0 then .phase0 else .phase1)) →
       ¬ (twice ∧ m = .fourth) → s.serviceTaken j.slot o m = kept) ∧
     (∀ k, j.phase = .ending k → ¬ (twice ∧ m = .fourth) → s.serviceTaken j.slot o m = kept) ∧
     (j.phase = .receiving → ¬ (twice ∧ m = (if j.response.length % 2 = 0 then .phase0 else .phase1)) →
       ¬ (twice ∧ m = .fourth ∧ o = 0xFF) → s.serviceTaken j.slot o m = kept) ∧
     ∀ k, j.phase = .aborting k → s.serviceTaken j.slot o m = kept) ∧
  (∀ (s : State) (n : SlotId) (o : Byte) (m : Mark), s.service.active = none → s.serviceTaken n o m = s) ∧
  ∀ (s : State) (j : Job), s.inReset = false → s.Quiet → s.service.active = some j →
    (j.phase = .sending ∨ j.phase = .receiving → 64 ≤ j.count →
      exec .serviceTimeout s = .next (s.endJob .timeout).flushPrompts ∧
        exec (.serviceJobEnd .timeout) s = .next (s.endJob .timeout).flushPrompts) ∧
    (j.count < 64 → exec .serviceTimeout s = .next s)

/-- R12, R39, R43, R47, R48: the end of the exchange of a port job and of a CAL_READ of any job. The outcome is OK
only for a response of status 0 and the kind's length; then, if the point has been bound to the job's slot all the
while (the model's reading, log entry 37), a CAL_WRITE installs the values written and a CAL_READ those read when they
lie in range, with SERVICE_DONE; every other ending leaves the calibration and raises SERVICE_FAILED, and a failure of
the exchange owes the slot two IDLE fields (R38; that every failure does is the model's reading, log entry 18). The
notice goes to the requesting port of a port job, and to every port for any other. -/
def Obligations.JobsEndWithOneNotice : Prop :=
  ∀ (s : State) (j : Job) (p : PointId), s.inReset = false → s.service.active = some j → j.point = some p →
    (∃ q, j.origin = .port q) ∨ j.kind = .calRead →
    let idle := s.setActive none
    let owed := idle.setSlot j.slot { s.slot j.slot with idleOwed := 2 }
    let tell := fun (k : NoticeKind) (u : State) => match j.origin with
      | .port q => u.notify q k (.point p)
      | _ => u.notifyAll k (.point p)
    let failed := fun (e : JobEnd) (u : State) =>
      exec (.serviceJobEnd e) s = .next (tell .serviceFailed u).startJob.flushPrompts
    let installed := fun (c : Cal) =>
      let l := (s.point p).load
      let high := if l.high = 0 then c.wll else min l.high c.wll
      idle.setPoint p { s.point p with load := { l with
        cal := some c, calFault := false, window := [], discardNext := true, value := .absent
        high := high, low := min l.low (high - 50) } }
    (∀ e, JobEnd.fails j.kind.responseLength e = true → failed e owed) ∧
    ((s.point p).boundSlot ≠ some j.slot ∨ j.discard = true → ∀ data, data.length < 7 → data.length + 1 = j.kind.responseLength →
      failed (.response (0 :: data)) idle) ∧
    ((s.point p).boundSlot = some j.slot → j.discard = false → ∀ c, j.kind = .calWrite → j.write = some c →
      exec (.serviceJobEnd (.response [0])) s = .next (tell .serviceDone (installed c)).startJob.flushPrompts) ∧
    ((s.point p).boundSlot = some j.slot → j.discard = false → j.kind = .calRead → ∀ z1 z0 s1 s0 w1 w0 : Byte,
      let c : Cal := ⟨(word2 z1 z0).toNat, (word2 s1 s0).toNat, (word2 w1 w0).toNat⟩
      let u := if c.zero ≤ 4095 ∧ 100 ≤ c.span ∧ c.span ≤ 20000 ∧ 50 ≤ c.wll ∧ c.wll ≤ 20000 then installed c
        else idle.setPoint p { s.point p with load := { (s.point p).load with
          cal := none, calFault := true, window := [], discardNext := true, value := .absent } }
      exec (.serviceJobEnd (.response [0, z1, z0, s1, s0, w1, w0])) s =
        .next (tell .serviceDone u).startJob.flushPrompts)

/-- R10, R11 and Table 1-5: an IDENT that answers identity X binds the unbound point patched with X and goes on with
CAL_READ, or leaves the slot FOREIGN with NODE_DUPLICATE or NODE_FOREIGN; one that fails returns the slot to EMPTY
without notice. That a failure of any kind, REFUSED and LENGTH among them, owes the slot two IDLE fields is the model's
reading (log entry 18). -/
def Obligations.IdentBindsOrLeavesForeign : Prop :=
  ∀ (s : State) (j : Job), s.inReset = false → s.service.active = some j → j.kind = .ident → j.origin = .join →
    (s.slot j.slot).state = .joining →
    let n := j.slot
    (∀ a b c d : Byte, let x := word4 a b c d
      let foreign := (s.setSlot n { s.slot n with
        state := .foreign, identity := some x, point := none, candidate := none, accepted := none }).setActive none
      let ends := fun (u : State) => exec (.serviceJobEnd (.response [0, a, b, c, d])) s = .next u.flushPrompts
      (x = 0x00000000 ∨ x = 0xFFFFFFFF → ends (foreign.notifyAll .nodeForeign (.slot n)).startJob) ∧
      (x ≠ 0x00000000 → x ≠ 0xFFFFFFFF → (∀ p, (s.point p).identity ≠ some x) →
        ends (foreign.notifyAll .nodeForeign (.slot n)).startJob) ∧
      (x ≠ 0x00000000 → x ≠ 0xFFFFFFFF → ∀ p, (∀ p', (s.point p').identity = some x ↔ p' = p) →
        ((s.point p).boundSlot ≠ none → ends (foreign.notifyAll .nodeDuplicate (.slot n)).startJob) ∧
        ((s.point p).boundSlot = none →
          ends ((((s.setSlot n { s.slot n with
              state := .bound, identity := some x, point := some p, candidate := none, accepted := none }).setPoint p
            { s.point p with
              boundSlot := some n, lastSlot := some n, raw := none, lastRun := none
              load := { (s.point p).load with window := [], discardNext := true, value := .absent } }).notifyAll
            .nodeJoined (.point p)).setActive (some
              { slot := n, kind := .calRead, origin := .join, point := some p, write := none, phase := .sending,
                index := 0, response := [], count := 0, prev := none, discard := false }))))) ∧
    ∀ e, JobEnd.fails 5 e = true →
      exec (.serviceJobEnd e) s =
        .next (((s.setSlot n { SlotRec.reset with idleOwed := 2 }).setActive none).startJob).flushPrompts

/-! ## Load measurement -/

/-- R52 and R53: a full window without a 4095 gives the whole number of kilograms nearest to n / 32768, a half going
away from zero; one with a 4095 gives OVER. -/
def Obligations.LoadIsTheNearestKilogram : Prop :=
  ∀ (w : List Code) (c : Cal),
    ((∃ r ∈ w, r = 4095) → convertLoad w c = .over) ∧
    ((∀ r ∈ w, r ≠ 4095) → ∃ v : Int, convertLoad w c = .kg v ∧
      let n := (((w.map fun r => r.toNat).sum : Int) - 8 * (c.zero : Int)) * (c.span : Int)
      (0 ≤ n → 32768 * v - 16384 ≤ n ∧ n < 32768 * v + 16384) ∧
      (n < 0 → 32768 * v - 16384 < n ∧ n ≤ 32768 * v + 16384))

/-- R50, R59, R60, R64, R65: what a load sample arrival leaves in the load part: the duty credit and duty_hot first,
then the window and the value, then both conditions against the value by Table 3-3; the limits and the calibration
stay. R65: DUTY_HOT or DUTY_COOL goes to every port when duty_hot changes, before both conditions are evaluated and
the arrival reaches the share check. R63 and R59: a condition that enters ACTIVE raises its notice at every port and
then faults the point's MOVING or STOPPING group, an underload only when the group travels down; the overload comes
first. Table 3-3: an ACTIVE condition that meets its exit in CROSS ends with its _CLEARED notice at every port; any
other evaluation changes nothing but the condition, so that no notice is raised and no group is touched: an INACTIVE
condition whose load does not enter stays INACTIVE with exit_seen no. That an ACTIVE underload is evaluated while
low_kg is 0 is the model's reading (log entry 21). -/
def Obligations.LoadArrivalsUpdateAndAlarm : Prop :=
  (∀ (s : State) (n : SlotId) (p : PointId) (r : Code),
     let l := (s.point p).load
     let credit := if s.effective n = .stop then l.duty - 1 else min (l.duty + 3) 65535
     let window := if l.discardNext then l.window
       else (if l.window.length < 8 then l.window else l.window.drop 1) ++ [r]
     let value := match l.cal with
       | some c => if window.length = 8 then convertLoad window c else .absent
       | none => .absent
     let oc := match value with
       | .kg v => decide ((l.high : Int) < v)
       | .over => true
       | .absent => false
     let uc := match value with
       | .kg v => decide (v < (l.low : Int)) && (l.underload.active || l.low != 0)
       | _ => false
     let overExit := match value with
       | .kg v => decide (v ≤ (l.high : Int) - (l.hyst : Int))
       | _ => false
     let underExit := match value with
       | .kg v => decide ((l.low : Int) + (l.hyst : Int) ≤ v)
       | .over => true
       | .absent => false
     let after := fun (c : Condition) (enter leave : Bool) =>
       if value = .absent then c
       else if enter then ⟨true, false⟩
       else if ¬ c.active then ⟨false, false⟩
       else if leave then (if l.alarm = .latch then ⟨true, true⟩ else ⟨false, false⟩)
       else c
     ((s.loadArrival n p r).point p).load = { l with
       duty := credit
       dutyHot := if l.dutyHot then decide (l.dutyLimit / 2 < credit) else decide (l.dutyLimit ≤ credit)
       window := window
       discardNext := false
       value := value
       overload := after l.overload oc overExit
       underload := after l.underload uc underExit } ∧
     let hot := if l.dutyHot then decide (l.dutyLimit / 2 < credit) else decide (l.dutyLimit ≤ credit)
     let u := s.setLoad p { l with
       duty := credit, dutyHot := hot, window := window, discardNext := false, value := value }
     let v := if hot = l.dutyHot then u
       else if hot then u.notifyAll .dutyHot (.point p) else u.notifyAll .dutyCool (.point p)
     s.loadArrival n p r = (if value = .absent then v else v.evaluateLoads p).shareArrival p) ∧
  (∀ (s : State) (p : PointId),
     let l := (s.point p).load
     let overEnds := ∃ v : Int, l.value = .kg v ∧ v ≤ (l.high : Int) - (l.hyst : Int)
     let underEnds := l.value = .over ∨ ∃ v : Int, l.value = .kg v ∧ (l.low : Int) + (l.hyst : Int) ≤ v
     (l.value = .over → l.overload.active = false → s.evaluateOverload p =
       ((s.setLoad p { l with overload := ⟨true, false⟩ }).notifyAll .overload (.point p)).faultPoint p .overload) ∧
     (l.overload.active = true → overEnds → l.alarm = .cross → s.evaluateOverload p =
       (s.setLoad p { l with overload := ⟨false, false⟩ }).notifyAll .overloadCleared (.point p)) ∧
     (l.underload.active = true → underEnds → l.alarm = .cross → s.evaluateUnderload p =
       (s.setLoad p { l with underload := ⟨false, false⟩ }).notifyAll .underloadCleared (.point p)) ∧
     (l.overload.active = true → ¬ overEnds ∨ l.alarm ≠ .cross →
       s.evaluateOverload p = { s with points := (s.evaluateOverload p).points }) ∧
     (l.underload.active = true → ¬ underEnds ∨ l.alarm ≠ .cross →
       s.evaluateUnderload p = { s with points := (s.evaluateUnderload p).points }) ∧
     (l.overload.active = false → l.value ≠ .over → (∀ v : Int, l.value = .kg v → v ≤ (l.high : Int)) →
       s.evaluateOverload p = s.setLoad p { l with overload := ⟨false, false⟩ }) ∧
     (l.underload.active = false → (∀ v : Int, l.value = .kg v → l.low = 0 ∨ (l.low : Int) ≤ v) →
       s.evaluateUnderload p = s.setLoad p { l with underload := ⟨false, false⟩ }) ∧
     (l.value ≠ .absent → s.evaluateLoads p = (s.evaluateOverload p).evaluateUnderload p)) ∧
  ∀ (s : State) (p : PointId) (v : Int), (s.point p).load.value = .kg v →
    let l := (s.point p).load
    ((l.high : Int) < v → l.overload.active = false →
      s.evaluateOverload p = ((s.setLoad p { l with overload := ⟨true, false⟩ }).notifyAll .overload (.point p)).faultPoint
        p .overload) ∧
    (v < (l.low : Int) → l.low ≠ 0 → l.underload.active = false →
      let u := (s.setLoad p { l with underload := ⟨true, false⟩ }).notifyAll .underload (.point p)
      s.evaluateUnderload p = match (s.point p).group with
        | some g => if (s.group g).dir = .down then u.faultGroup g .underload (some p) else u
        | none => u) ∧
    s.evaluateLoads p = (s.evaluateOverload p).evaluateUnderload p

/-- R54 to R56 and R42: the checks of TARE, CAL_WRITE and CAL_READ in their order, FULL when the port has two entries or
the queue six, and otherwise an entry at the end of the port service queue for the point's bound slot. -/
def Obligations.CalibrationRequestsAreQueued : Prop :=
  ∀ (s : State) (q : Port) (tag b : Byte) (zero span wll : Word16), s.Takes q →
    let inRange := zero.toNat ≤ 4095 ∧ 100 ≤ span.toNat ∧ span.toNat ≤ 20000 ∧ 50 ≤ wll.toNat ∧ wll.toNat ≤ 20000
    let tare := exec (.tare q tag b) s
    let write := exec (.calWrite q tag b zero span wll) s
    let read := exec (.calRead q tag b) s
    let no := fun typ payload => Host.Outcome.next (s.answered q typ tag payload)
    (pointOf b = none → tare = no 0xA0 [3] ∧ write = no 0xA1 [3] ∧ read = no 0xA2 [3]) ∧
    (¬ inRange → write = no 0xA1 [3]) ∧
    ∀ p, pointOf b = some p →
      (∀ g, (s.point p).group = some g → (s.group g).state = .moving ∨ (s.group g).state = .stopping →
        tare = no 0xA0 [6] ∧ (inRange → write = no 0xA1 [6]) ∧ read = no 0xA2 [6]) ∧
      ((∀ g, (s.point p).group = some g → (s.group g).state ≠ .moving ∧ (s.group g).state ≠ .stopping) →
        ((s.point p).boundSlot = none →
          tare = no 0xA0 [7, 2, pointByte p] ∧ (inRange → write = no 0xA1 [7, 2, pointByte p]) ∧
            read = no 0xA2 [7, 2, pointByte p]) ∧
        ∀ n, (s.point p).boundSlot = some n →
          let l := (s.point p).load
          let sum := (l.window.map fun r => r.toNat).sum
          let z := (sum + 4) / 8
          let good := l.window.length = 8 ∧ ∀ r ∈ l.window, r ≠ 4095
          let full := 2 ≤ (s.service.portQueue.filter fun e => e.port == q).length ∨ 6 ≤ s.service.portQueue.length
          let queued := fun w =>
            (s.setPortQueue (s.service.portQueue ++ [⟨q, p, n, w⟩])).startJob
          (l.cal = none → tare = no 0xA0 [7, 5, pointByte p]) ∧
          (l.cal ≠ none → ¬ good → tare = no 0xA0 [7, 6, pointByte p]) ∧
          (full → (l.cal ≠ none → good → tare = no 0xA0 [9]) ∧ (inRange → write = no 0xA1 [9]) ∧ read = no 0xA2 [9]) ∧
          (¬ full →
            (∀ c, l.cal = some c → good →
              tare = .next ((queued (some ⟨z, c.span, c.wll⟩)).answered q 0xA0 tag (0 :: nat2 z)).flushPrompts) ∧
            (inRange → write = .next ((queued (some ⟨zero.toNat, span.toNat, wll.toNat⟩)).answered q 0xA1 tag
              [0]).flushPrompts) ∧
            read = .next ((queued none).answered q 0xA2 tag [0]).flushPrompts))

/-- R61: CLEAR_LOAD_ALARM ends each condition that is ACTIVE with its exit seen, with its notice at every port, and
leaves any other; the answer carries the conditions as they then stand; that OVERLOAD_CLEARED is recorded first where
both end is the model's choice (log entry 40). R62 and R60: SET_LOAD_LIMITS clamps in its order, stores and answers
the values; leaving LATCH ends the conditions whose exit has been seen, a low_kg of 0 ends an ACTIVE underload, each
with its _CLEARED notice at every port when the mode stored is CROSS, and a present load value is evaluated again. The
order of these endings and the mode that decides the notice of a low_kg of 0 are the model's choices (log entries 22
and 38). R66 and R65: SET_DUTY_LIMIT clamps and stores the limit and evaluates duty_hot at once, with its notice when
it changes; the credit stays. -/
def Obligations.LoadSettingsAreReevaluated : Prop :=
  (∀ (s : State) (q : Port) (tag b : Byte), s.Takes q →
     (pointOf b = none → exec (.clearLoadAlarm q tag b) s = .next (s.answered q 0xA3 tag [3])) ∧
     ∀ p, pointOf b = some p →
       let l := (s.point p).load
       let oc := l.overload.active && l.overload.exitSeen
       let uc := l.underload.active && l.underload.exitSeen
       let u := s.setLoad p { l with
         overload := if oc then ⟨false, false⟩ else l.overload
         underload := if uc then ⟨false, false⟩ else l.underload }
       let v := if oc then u.notifyAll .overloadCleared (.point p) else u
       let w := if uc then v.notifyAll .underloadCleared (.point p) else v
       exec (.clearLoadAlarm q tag b) s =
         .next (w.answered q 0xA3 tag [0, boolByte (l.overload.active && !oc), boolByte (l.underload.active && !uc)]).flushPrompts) ∧
  (∀ (s : State) (q : Port) (tag b : Byte) (high low hyst : Word16) (mode : Byte), s.Takes q →
     let done := exec (.setLoadLimits q tag b high low hyst mode) s
     (pointOf b = none ∨ 3 ≤ mode.toNat → done = .next (s.answered q 0xA4 tag [3])) ∧
     ∀ p m, pointOf b = some p → alarmModeOf mode = some m →
       let l := (s.point p).load
       let top := match l.cal with
         | some c => c.wll
         | none => 20000
       let h := max 50 (min high.toNat top)
       let lo := min low.toNat (h - 50)
       let hy := max 5 (min hyst.toNat 500)
       let leaves := l.alarm = .latch ∧ m ≠ .latch
       let oc := if leaves ∧ l.overload.active ∧ l.overload.exitSeen then ⟨false, false⟩ else l.overload
       let uc := if leaves ∧ l.underload.active ∧ l.underload.exitSeen then ⟨false, false⟩ else l.underload
       let stored : LoadPart := { l with
         high := h, low := lo, hyst := hy, alarm := m, overload := oc
         underload := if lo = 0 ∧ uc.active then ⟨false, false⟩ else uc }
       let u := s.setLoad p stored
       let v := if m = .cross ∧ leaves ∧ l.overload.active ∧ l.overload.exitSeen then
         u.notifyAll .overloadCleared (.point p) else u
       let w := if m = .cross ∧ l.underload.active ∧ (lo = 0 ∨ (leaves ∧ l.underload.exitSeen)) then
         v.notifyAll .underloadCleared (.point p) else v
       done = .next (((if l.value = .absent then w else w.evaluateLoads p).answered q 0xA4 tag
         (0 :: nat2 h ++ nat2 lo ++ nat2 hy ++ [mode])).flushPrompts)) ∧
  ∀ (s : State) (q : Port) (tag b : Byte) (limit : Word16), s.Takes q →
    (pointOf b = none → exec (.setDutyLimit q tag b limit) s = .next (s.answered q 0xA5 tag [3])) ∧
    ∀ p, pointOf b = some p →
      let l := (s.point p).load
      let v := max 300 (min limit.toNat 60000)
      let hot := if l.dutyHot then decide (v / 2 < l.duty) else decide (v ≤ l.duty)
      let u := s.setLoad p { l with dutyLimit := v, dutyHot := hot }
      let w := if hot = l.dutyHot then u
        else if hot then u.notifyAll .dutyHot (.point p) else u.notifyAll .dutyCool (.point p)
      exec (.setDutyLimit q tag b limit) s =
        .next (w.answered q 0xA5 tag (0 :: nat2 v ++ nat2 l.duty ++ [boolByte hot])).flushPrompts

/-! ## Groups and claims -/

/-- R71 and R72: SET_MEMBERS is checked in its order; accepted, it replaces the list in the request's order with members
at rest and sets the group field of the points that join and leave, all in one action, without notice. R83:
SET_BANDS is refused by group, then holder, then a MOVING group; otherwise the five bands are clamped in order, each
by those before it, stored together and answered. -/
def Obligations.MembersAndBandsAreReplaced : Prop :=
  (∀ (s : State) (q : Port) (tag b : Byte) (list : List Byte), s.Takes q → list.length ≤ 24 →
     let done := exec (.setMembers q tag b list) s
     (groupOf b = none ∨ (∃ x ∈ list, pointOf x = none) ∨ ¬ list.Nodup → done = .next (s.answered q 0xB0 tag [3])) ∧
     ∀ (g : GroupId) (ps : List PointId), groupOf b = some g → list = ps.map pointByte → ps.Nodup →
       ((s.group g).holder ≠ some q → done = .next (s.answered q 0xB0 tag [4])) ∧
       ((s.group g).holder = some q → (s.group g).state ≠ .idle → done = .next (s.answered q 0xB0 tag [6])) ∧
       ((s.group g).holder = some q → (s.group g).state = .idle →
         (∀ (pre post : List PointId) (p : PointId) (h : GroupId), ps = pre ++ p :: post →
           (∀ x ∈ pre, ∀ k, (s.point x).group = some k → k = g) → (s.point p).group = some h → h ≠ g →
           done = .next (s.answered q 0xB0 tag [8, 16, pointByte p, groupByte h])) ∧
         ((∀ x ∈ ps, ∀ k, (s.point x).group = some k → k = g) →
           done = .next (({ s with
             groups := s.groups.set g { s.group g with
               members := ps.map fun p => ⟨p, .still, none, none, none, none, false, none, 0⟩ }
             points := Vector.ofFn fun p => { s.point p with
               group := if p ∈ ps then some g
                 else if ∃ m ∈ (s.group g).members, m.point = p then none
                 else (s.point p).group } } : State).answered q 0xB0 tag (0 :: byte ps.length :: list))))) ∧
  ∀ (s : State) (q : Port) (tag b : Byte) (pause resume trip share tolerance : Word16), s.Takes q →
    let done := exec (.setBands q tag b pause resume trip share tolerance) s
    (groupOf b = none → done = .next (s.answered q 0xB4 tag [3])) ∧
    ∀ g, groupOf b = some g →
      let P := max 2 (min pause.toNat 100)
      let R := min resume.toNat (P - 1)
      let T := max (P + 10) (min trip.toNat 500)
      let Q := max 5 (min share.toNat 50)
      let A := max 5 (min tolerance.toNat 200)
      done = if (s.group g).holder ≠ some q then .next (s.answered q 0xB4 tag [4])
        else if (s.group g).state = .moving then .next (s.answered q 0xB4 tag [6])
        else .next ((s.setGroup g { s.group g with bands := ⟨P, R, T, Q, A⟩ }).answered q 0xB4 tag
          (0 :: nat2 P ++ nat2 R ++ nat2 T ++ nat2 Q ++ nat2 A))

/-- R75 to R77: CLAIM, RELEASE and TAKEOVER in every case of the holder, the orphan mark and the group's state; each
change of a claim raises CLAIM_CHANGED at every port and nothing else of the group changes. -/
def Obligations.ClaimsReleasesAndTakeovers : Prop :=
  ∀ (s : State) (q : Port) (tag b : Byte), s.Takes q →
    let claim := exec (.claim q tag b) s
    let release := exec (.release q tag b) s
    let takeover := exec (.takeover q tag b) s
    (groupOf b = none → claim = .next (s.answered q 0xB1 tag [3]) ∧ release = .next (s.answered q 0xB2 tag [3]) ∧
      takeover = .next (s.answered q 0xB3 tag [3])) ∧
    ∀ g, groupOf b = some g →
      let r := s.group g
      let given := fun (h : Option Port) (typ : Byte) =>
        Host.Outcome.next (φ := Fault) (ρ := Refusal) (((s.setGroup g { r with holder := h, orphaned := false }).notifyAll
          .claimChanged (.group g)).answered q typ tag [0]).flushPrompts
      (r.holder = none → claim = given (some q) 0xB1 ∧ takeover = given (some q) 0xB3) ∧
      (r.holder = some q →
        (claim = if r.orphaned then given (some q) 0xB1 else .next (s.answered q 0xB1 tag [0])) ∧
        (takeover = if r.orphaned then given (some q) 0xB3 else .next (s.answered q 0xB3 tag [0]))) ∧
      (∀ h, r.holder = some h → h ≠ q → claim = .next (s.answered q 0xB1 tag [5, portByte h]) ∧
        (takeover = if r.orphaned = false then .next (s.answered q 0xB3 tag [5, portByte h])
          else if r.state = .moving ∨ r.state = .stopping then .next (s.answered q 0xB3 tag [6])
          else given (some q) 0xB3)) ∧
      (release = if r.holder ≠ some q then .next (s.answered q 0xB2 tag [4])
        else if r.state = .moving ∨ r.state = .stopping then .next (s.answered q 0xB2 tag [6])
        else given none 0xB2)

/-! ## Moves -/

/-- R90 and Table 5-4: a START passes exactly when every check holds; the first check that fails gives the result, with
the first member in list order that fails it as subject, and a refused START changes nothing. -/
def Obligations.StartChecksRunInOrder : Prop :=
  ∀ (s : State) (q : Port) (g : GroupId) (mv : Move),
    let check := s.startCheck (some q) g mv
    let r := s.group g
    let d := s.startDir g mv
    let sound := fun (p : PointId) =>
      (s.point p).boundSlot ≠ none ∧ (s.point p).raw ≠ none ∧ (s.point p).load.value ≠ .absent
    let vetoed := fun (p : PointId) => (s.point p).stop.runaway = true ∨ ∃ e k, d = some e ∧
      (s.point p).stop.flags.get k = true ∧ (s.point p).stop.masks.get k = true ∧ StopKind.blocks k e = true
    (check = none ↔ s.Startable q g d) ∧
    (∀ x o, check = some x → s.start (some q) o g mv = (s, .refused x)) ∧
    s.startCheck none g mv = some .notHolder ∧
    (¬ s.GateOpen q g → check = some (
      if r.holder ≠ some q then .notHolder
      else if r.state ≠ .idle then .busy
      else if r.members = [] then .notReady .empty none
      else if s.stopUnit.estop = true then .blocked .estop none
      else if s.stopUnit.mains ≠ .closed then .blocked .mains none
      else if s.stopUnit.hold ≠ ⟨false, false, false⟩ then .blocked .hold none
      else .blocked .noEnable none)) ∧
    (s.GateOpen q g → ∀ pre m post, r.members = pre ++ m :: post →
      let p := m.point
      let before := fun (ok : PointId → Prop) => ∀ k ∈ pre, ok k.point
      let all := fun (ok : PointId → Prop) => ∀ k ∈ r.members, ok k.point
      (before sound →
        ((s.point p).boundSlot = none → check = some (.notReady .unbound (some p))) ∧
        ((s.point p).boundSlot ≠ none → (s.point p).raw = none → check = some (.notReady .noPosition (some p))) ∧
        ((s.point p).boundSlot ≠ none → (s.point p).raw ≠ none → (s.point p).load.value = .absent →
          check = some (.notReady .noLoad (some p)))) ∧
      (all sound →
        (before (fun k => (s.point k).load.overload.active = false) → (s.point p).load.overload.active = true →
          check = some (.blocked .overload (some p))) ∧
        (all (fun k => (s.point k).load.overload.active = false) →
          (d = some .down → before (fun k => (s.point k).load.underload.active = false) →
            (s.point p).load.underload.active = true → check = some (.blocked .underload (some p))) ∧
          (d ≠ some .down ∨ all (fun k => (s.point k).load.underload.active = false) →
            (before (fun k => ¬ vetoed k) → vetoed p → check = some (.blocked .stopInput (some p))) ∧
            (all (fun k => ¬ vetoed k) → before (fun k => (s.point k).load.dutyHot = false) →
              (s.point p).load.dutyHot = true → check = some (.blocked .duty (some p)))))))

/-- R92: the limited travel is D itself when every target fits; otherwise it goes no further than D in D's direction and
no further than the first soft limit met, and is 0 when that leaves no travel or leaves a target outside. -/
def Obligations.TravelIsLimitedToTheSoftLimits : Prop :=
  ∀ (s : State) (g : GroupId) (D : Int), D ≠ 0 → (s.group g).members ≠ [] →
    (∀ m ∈ (s.group g).members, s.pos m.point ≠ none) →
    let E := s.clampTravel g D
    (s.TargetsFit g D → E = D) ∧
    (E ≠ 0 → s.TargetsFit g E ∧ (0 < D → 0 < E ∧ E ≤ D) ∧ (D < 0 → E < 0 ∧ D ≤ E)) ∧
    (E ≠ D → ∀ F, (0 < D → E < F ∧ F ≤ D) → (D < 0 → F < E ∧ D ≤ F) → ¬ s.TargetsFit g F)

/-- R89, R91 to R93: a MOVE_BY or a MOVE_TO that passes every check carries the group off by the limited travel with
every member in RUN, and answers the travel and direction; TARGET_CLAMPED precedes a shortened move, and a travel of 0
leaves the group record as it was with GROUP_DONE to the holder. An argument out of range and a check that fails are
refused, changing nothing. R89, R93 and R94: a JOG that passes every check starts with no targets and applied travel
0, unless a member already stands at or beyond its soft limit in the direction; then the first such member gets
LIMIT_REACHED and the group record stays. The dir answered for a travel of 0, and then, is the model's reading (log
entry 19). Table 8-2, Table 8-3 and R175: the bytes of each refusal of a START. -/
def Obligations.MovesStart : Prop :=
  (Reject.notHolder.bytes = [4] ∧ Reject.busy.bytes = [6] ∧ (Reject.notReady .empty none).bytes = [7, 1, 0] ∧
     (Reject.blocked .estop none).bytes = [8, 7, 0] ∧ (Reject.blocked .mains none).bytes = [8, 8, 0] ∧
     (Reject.blocked .hold none).bytes = [8, 9, 0] ∧ (Reject.blocked .noEnable none).bytes = [8, 10, 0] ∧
     ∀ p : PointId, let b := BitVec.ofNat 8 (p.val + 1)
       (Reject.notReady .unbound (some p)).bytes = [7, 2, b] ∧ (Reject.notReady .noPosition (some p)).bytes = [7, 3, b] ∧
       (Reject.notReady .noLoad (some p)).bytes = [7, 4, b] ∧ (Reject.blocked .overload (some p)).bytes = [8, 11, b] ∧
       (Reject.blocked .underload (some p)).bytes = [8, 12, b] ∧
       (Reject.blocked .stopInput (some p)).bytes = [8, 13, b] ∧ (Reject.blocked .duty (some p)).bytes = [8, 14, b]) ∧
  (∀ (s : State) (q : Port) (tag b : Byte) (x : Word24), s.Takes q →
     let by' := exec (.moveBy q tag b x) s
     let to' := exec (.moveTo q tag b x) s
     (groupOf b = none ∨ x.toInt < -67535 ∨ 67535 < x.toInt → by' = .next (s.answered q 0xC1 tag [3])) ∧
     (groupOf b = none ∨ x.toInt < -1000 ∨ 66535 < x.toInt → to' = .next (s.answered q 0xC0 tag [3])) ∧
     ∀ g, groupOf b = some g →
       let r := s.group g
       let after := fun (typ : Byte) (D : Int) =>
         let E := if D = 0 then 0 else s.clampTravel g D
         let u := if E = D then s else s.notify q .targetClamped (.group g)
         if E = 0 then
           ((u.notify q .groupDone (.group g)).answered q typ tag (0 :: int3 0 ++ [r.dir.code])).flushPrompts
         else if 0 < E then
           ((u.started g .target .console .up E).answered q typ tag (0 :: int3 E ++ [0x01])).flushPrompts
         else ((u.started g .target .console .down E).answered q typ tag (0 :: int3 E ++ [0xFF])).flushPrompts
       (-67535 ≤ x.toInt → x.toInt ≤ 67535 →
         (∀ e, s.startCheck (some q) g (.dist x.toInt) = some e → by' = .next (s.answered q 0xC1 tag e.bytes)) ∧
         (s.Startable q g (dirOf x.toInt) → by' = .next (after 0xC1 x.toInt))) ∧
       (-1000 ≤ x.toInt → x.toInt ≤ 66535 →
         (∀ e, s.startCheck (some q) g (.height x.toInt) = some e → to' = .next (s.answered q 0xC0 tag e.bytes)) ∧
         ∀ m rest lead, r.members = m :: rest → s.pos m.point = some lead → s.Startable q g (dirOf (x.toInt - lead)) →
           to' = .next (after 0xC0 (x.toInt - lead)))) ∧
  ∀ (s : State) (q : Port) (tag b x : Byte), s.Takes q →
    let done := exec (.jog q tag b x) s
    (groupOf b = none ∨ 2 ≤ x.toNat → done = .next (s.answered q 0xC2 tag [3])) ∧
    ∀ g d, groupOf b = some g → jogDirOf x = some d →
      let beyond := fun (p : PointId) => ∃ y, s.pos p = some y ∧
        (d = .up ∧ (s.point p).softMax ≤ y ∨ d = .down ∧ y ≤ (s.point p).softMin)
      (∀ e, s.startCheck (some q) g (.jog d) = some e → done = .next (s.answered q 0xC2 tag e.bytes)) ∧
      (s.Startable q g (some d) →
        ((∀ m ∈ (s.group g).members, ¬ beyond m.point) →
          done = .next ((s.started g .jog .console d 0).answered q 0xC2 tag (0 :: int3 0 ++ [d.code]))) ∧
        ∀ pre m post, (s.group g).members = pre ++ m :: post → (∀ k ∈ pre, ¬ beyond k.point) → beyond m.point →
          done = .next ((s.notify q .limitReached (.point m.point)).answered q 0xC2 tag
            (0 :: int3 0 ++ [(s.group g).dir.code])).flushPrompts)

/-- R110 and R112: a stop of a MOVING group halts every member not in DONE, records its cause, and ends at once when
every member is DONE or STILL, with GROUP_STOPPED to the holder and a STOPPED report for a cued move; any other
group is left as it was. R111: STOP is taken from any port and answers the group's state after it. -/
def Obligations.StopsHaltAndEnd : Prop :=
  (∀ (s : State) (g : GroupId) (c : StopCause),
    ((s.group g).state ≠ .moving → s.stopGroup g c = s) ∧
    ((s.group g).state = .moving → ¬ s.AllStill g → s.stopGroup g c = s.setGroup g ((s.group g).stopped c)) ∧
    ((s.group g).state = .moving → s.AllStill g →
      let u := (s.setGroup g ((s.group g).stopped c).atRest).notifyOpt (s.group g).holder .groupStopped (.group g)
      s.stopGroup g c =
        if (s.group g).origin = .cue ∧ s.cue.state = .running ∧ s.cue.firedGroup = some g then
          (u.setCue { s.cue with firedGroup := none, state := .stalled, stall := some .stopped }).notifyOpt s.cue.owner
            .cueStall (cueSubject s.cue.firedIndex)
        else u)) ∧
  ∀ (s : State) (q : Port) (tag b : Byte), s.Takes q →
    (groupOf b = none → exec (.stop q tag b) s = .next (s.answered q 0xC3 tag [3])) ∧
    ∀ g, groupOf b = some g → let t := s.stopGroup g .stop
      exec (.stop q tag b) s = .next (t.answered q 0xC3 tag [0, (t.group g).state.code]).flushPrompts

/-- R113 and R114: a fault request of a MOVING or STOPPING group halts every member, records the cause, raises
GROUP_FAULT at every port and reports FAULTED for a cued move; any other group ignores it, so that the first cause
stands. R115 and R104: ACK_FAULT is checked by group, holder and state; of an IDLE group it changes nothing, and of
one in FAULT it restores IDLE with no cause exactly when every member is unbound or STILL. SET_STOP_LEAD clamps the
lead to 250 and stores it unless the point's group is MOVING or STOPPING. -/
def Obligations.FaultsStandUntilAcknowledged : Prop :=
  (∀ (s : State) (g : GroupId) (k k' : FaultKind) (p p' : Option PointId),
     ((s.group g).state ≠ .moving → (s.group g).state ≠ .stopping → s.faultGroup g k p = s) ∧
     ((s.group g).state = .moving ∨ (s.group g).state = .stopping →
       let u := (s.setGroup g ((s.group g).faulted k p)).notifyAll .groupFault (.group g)
       s.faultGroup g k p =
         if (s.group g).origin = .cue ∧ s.cue.state = .running ∧ s.cue.firedGroup = some g then
           (u.setCue { s.cue with firedGroup := none, state := .stalled, stall := some .faulted }).notifyOpt s.cue.owner
             .cueStall (cueSubject s.cue.firedIndex)
         else u) ∧
     (s.faultGroup g k p).faultGroup g k' p' = s.faultGroup g k p) ∧
  ∀ (s : State) (q : Port) (tag b : Byte) (lead : Word16), s.Takes q →
    let ack := exec (.ackFault q tag b) s
    let set := exec (.setStopLead q tag b lead) s
    (groupOf b = none → ack = .next (s.answered q 0xC4 tag [3])) ∧
    (∀ g, groupOf b = some g →
      let r := s.group g
      ack = if r.holder ≠ some q then .next (s.answered q 0xC4 tag [4])
        else if r.state = .moving ∨ r.state = .stopping then .next (s.answered q 0xC4 tag [6])
        else if r.state = .idle then .next (s.answered q 0xC4 tag [0])
        else if ∀ m ∈ r.members, (s.point m.point).boundSlot = none ∨ s.sense m.point = some .still then
          .next ((s.setGroup g { r.atRest with fault := none }).answered q 0xC4 tag [0])
        else .next (s.answered q 0xC4 tag [6])) ∧
    (pointOf b = none → set = .next (s.answered q 0xC5 tag [3])) ∧
    ∀ p, pointOf b = some p →
      ((∃ g, (s.point p).group = some g ∧ ((s.group g).state = .moving ∨ (s.group g).state = .stopping)) →
        set = .next (s.answered q 0xC5 tag [6])) ∧
      ((∀ g, (s.point p).group = some g → (s.group g).state ≠ .moving ∧ (s.group g).state ≠ .stopping) →
        set = .next ((s.setPoint p { s.point p with stopLead := min lead.toNat 250 }).answered q 0xC5 tag
          [0, byte (min lead.toNat 250)]))

/-- R108: a run timer that is due stops, and faults the group with NO_MOTION unless the member's accepted motion sense
is the direction of travel; that one which is not due does nothing is the model's choice (log entry 2). R106: from the
fourth load sample arrival after the START, a supervised member of a MOVING group faults it with SHARE when its load
value is OVER, or differs from the baseline by more than the larger of 20 kg and the share band; no other member of no
other group is touched. R109 and Table 5-8: what a change of the motion sense does. -/
def Obligations.TimersSharesAndSensesAreSupervised : Prop :=
  (∀ (s : State) (p : PointId), s.inReset = false → s.Quiet →
     (∀ g m d, (s.point p).group = some g → (s.group g).member p = some m → m.runTimer = some d → d ≤ s.now →
       let u := s.setGroup g { s.group g with members := (s.group g).members.map fun x =>
         if x.point = p then { x with runTimer := none } else x }
       exec (.runTimerExpiry p) s =
         if s.sense p = some (s.group g).dir.sense then .next u
         else .next (u.faultGroup g .noMotion (some p)).flushPrompts) ∧
     ((∀ g m d, (s.point p).group = some g → (s.group g).member p = some m → m.runTimer = some d → s.now < d) →
       exec (.runTimerExpiry p) s = .next s)) ∧
  ∀ (s : State) (p : PointId) (g : GroupId) (m : Member), (s.point p).group = some g → (s.group g).member p = some m →
    let r := s.group g
    let upd := fun (f : Member → Member) =>
      s.setGroup g { r with members := r.members.map fun k => if k.point = p then f k else k }
    (r.state ≠ .moving ∨ m.state = .still ∨ m.state = .done ∨ m.state = .halt → s.shareArrival p = s) ∧
    (r.state = .moving → m.state = .run ∨ m.state = .pause ∨ m.state = .coast →
      (m.settle < 3 → s.shareArrival p = upd fun k => { k with settle := m.settle + 1 }) ∧
      (3 ≤ m.settle →
        let u := upd fun k => { k with settle := 4 }
        ((s.point p).load.value = .absent → s.shareArrival p = u) ∧
        ((s.point p).load.value = .over → s.shareArrival p = u.faultGroup g .share (some p)) ∧
        ∀ v base, (s.point p).load.value = .kg v → m.baseline = some base →
          s.shareArrival p = if max 20 (|base| * (r.bands.share : Int) / 100) < |v - base| then
            u.faultGroup g .share (some p) else u)) ∧
    ∀ v : Sense,
      (r.state = .moving → m.state = .run → v = .still →
        s.senseChange p v = upd fun k => { k with runTimer := some (s.now + 400) }) ∧
      (r.state = .moving → m.state = .run → v = r.dir.sense → s.senseChange p v = s) ∧
      (r.state = .moving → m.state = .run → v ≠ .still → v ≠ r.dir.sense →
        s.senseChange p v = s.faultGroup g .wrongDirection (some p)) ∧
      (r.state = .moving → m.state = .coast → v = .still → s.senseChange p v = s.memberDone g m) ∧
      (r.state = .stopping → m.state = .halt → v = .still → s.senseChange p v = s.endStopping g) ∧
      (¬ (r.state = .moving ∧ m.state = .run) → ¬ (r.state = .moving ∧ m.state = .coast ∧ v = .still) →
        ¬ (r.state = .stopping ∧ m.state = .halt ∧ v = .still) → s.senseChange p v = s)

/-- R96 to R98: with L the least progress of the travelling members, a position report faults the group with SKEW at
the first member whose lead reaches the trip band; otherwise each RUN member whose lead reaches the pause band pauses
and each PAUSE member whose lead is within the resume band runs, and some member is in RUN afterward. The reporter, if
it is then in RUN or PAUSE, is checked for its arrival in a TARGET move and for its soft limit in a JOG (R96 steps 4
and 5). A report of a point that is in no group, in a group that is not MOVING, or in a MOVING group none of whose
members travels, does nothing here. -/
def Obligations.LeadsTripPauseAndResume : Prop :=
  (∀ (s : State) (g : GroupId) (L : Int),
    let r := s.group g
    let travels := fun (m : Member) => m.state = .run ∨ m.state = .pause
    let progress := fun (m : Member) => ((s.pos m.point).getD 0 - m.startPos.getD 0) * r.dir.sign
    r.state = .moving → (∀ m ∈ r.members, travels m → s.pos m.point ≠ none ∧ m.startPos ≠ none) →
    (∃ m ∈ r.members, travels m ∧ progress m = L) → (∀ m ∈ r.members, travels m → L ≤ progress m) →
    (∀ pre m post, r.members = pre ++ m :: post →
      (∀ k ∈ pre, travels k → progress k - L < (r.bands.trip : Int)) → travels m →
      (r.bands.trip : Int) ≤ progress m - L → ∀ p, (s.point p).group = some g →
      s.positionReport p = s.faultGroup g .skew (some m.point)) ∧
    (s.levelMembers g = s.setGroup g { r with
      members := r.members.map fun m =>
        if m.state = .run ∧ (r.bands.pause : Int) ≤ progress m - L then { m with state := .pause, runTimer := none }
        else if m.state = .pause ∧ progress m - L ≤ (r.bands.resume : Int) then
          { m with state := .run, runTimer := some (s.now + 400) }
        else m }) ∧
    (0 < r.bands.pause → ∃ m ∈ ((s.levelMembers g).group g).members, m.state = .run) ∧
    (∀ p m, (s.point p).group = some g → r.member p = some m → m.state ≠ .run → m.state ≠ .pause →
      (∀ k ∈ r.members, travels k → progress k - L < (r.bands.trip : Int)) →
      s.positionReport p = s.levelMembers g) ∧
    (∀ p m, (s.point p).group = some g → r.member p = some m → travels m →
      (∀ k ∈ r.members, travels k → progress k - L < (r.bands.trip : Int)) →
      let levelled : Member :=
        if m.state = .run ∧ (r.bands.pause : Int) ≤ progress m - L then { m with state := .pause, runTimer := none }
        else if m.state = .pause ∧ progress m - L ≤ (r.bands.resume : Int) then
          { m with state := .run, runTimer := some (s.now + 400) }
        else m
      s.positionReport p = match r.kind with
        | .target => (s.levelMembers g).checkArrival g levelled
        | .jog => (s.levelMembers g).checkJogLimit g levelled)) ∧
  (∀ (s : State) (p : PointId) (g : GroupId), (s.point p).group = some g → (s.group g).state = .moving →
    (∀ m ∈ (s.group g).members, m.state ≠ .run ∧ m.state ≠ .pause) → s.positionReport p = s) ∧
  ∀ (s : State) (p : PointId), (∀ g, (s.point p).group = some g → (s.group g).state ≠ .moving) → s.positionReport p = s

/-- R100 to R103: a member whose remaining travel is at or below its stop lead is released where it stands and goes on
to DONE when its sense is STILL; DONE learns the stop lead from a moving release, reports a final position outside
the tolerance, and completes the group with GROUP_DONE to the holder when every member is DONE. R105: a JOG member
at its soft limit stops the group with cause LIMIT and LIMIT_REACHED goes to the holder; that the stop stands before
the notice is the model's reading (log entry 36). -/
def Obligations.MembersArriveAndAreLearnt : Prop :=
  (∀ (s : State) (g : GroupId) (m : Member) (x t : Int), s.pos m.point = some x → m.target = some t →
    let r := s.group g
    let m' : Member := { m with
      state := .coast
      runTimer := none
      releasePos := some x
      releasedMoving := decide (s.sense m.point = some r.dir.sense) }
    let u := s.setGroup g { r with members := r.members.map fun k => if k.point = m.point then m' else k }
    s.checkArrival g m =
      if (t - x) * r.dir.sign ≤ ((s.point m.point).stopLead : Int) then
        (if s.sense m.point = some .still then u.memberDone g m' else u)
      else s) ∧
  (∀ (s : State) (g : GroupId) (m : Member) (final release t : Int), s.pos m.point = some final →
    m.releasePos = some release → m.target = some t →
    let r := s.group g
    let L := (s.point m.point).stopLead
    let measured := (max 0 (min 250 ((final - release) * r.dir.sign))).toNat
    let r' := { r with members := r.members.map fun k => if k.point = m.point then { k with state := .done } else k }
    let u := s.setGroup g r'
    let v := if m.releasedMoving then
      u.setPoint m.point { s.point m.point with stopLead := (3 * L + measured + 2) / 4 } else u
    let w := if (r.bands.tolerance : Int) < |final - t| then v.notifyOpt r.holder .arrivalError (.point m.point) else v
    let done := (w.setGroup g r'.atRest).notifyOpt r.holder .groupDone (.group g)
    (s.memberDone g m = if ∀ k ∈ r'.members, k.state = .done then
        (if r.origin = .cue then done.cueCompleted g else done)
      else w) ∧ (L ≤ 250 → (3 * L + measured + 2) / 4 ≤ 250)) ∧
  ∀ (s : State) (g : GroupId) (m : Member) (x : Int), s.pos m.point = some x →
    s.checkJogLimit g m =
      if ((s.group g).dir = .up ∧ (s.point m.point).softMax ≤ x) ∨
          ((s.group g).dir = .down ∧ x ≤ (s.point m.point).softMin) then
        (s.stopGroup g .limit).notifyOpt (s.group g).holder .limitReached (.point m.point)
      else s

/-! ## Stop inputs, mains and holds -/

/-- R122 and R124: CLEAR_STOP_FLAGS is refused while a runaway point is not known STILL; accepted, it leaves set
exactly the LEVEL flags whose input is present. SET_STOP_CONFIG stores modes and masks together and sets the flags
that a change from EDGE to LEVEL finds present, with one STOP_INPUT for each newly set. A mode or mask byte above 15
is refused, by the model's reading (log entry 14). R119 and R120: at an indication change each kind in order sets its
flag by Table 6-2, whatever its mask; a flag newly set raises STOP_INPUT at every port, and then, with its mask
enabled, faults the MOVING group of the point with STOP_INPUT where Table 6-3 says so. The runaway examination comes
last. -/
def Obligations.StopFlagsAreClearedAndConfigured : Prop :=
  (∀ (s : State) (p : PointId) (before : Option Indication) (v : Indication),
     let old := match before with
       | some w => w.stops
       | none => ⟨false, false, false, false⟩
     let take := fun (k : StopKind) (u : State) => u.stopFlag p old v.stops k
     s.stopUnitChange p before v =
       (take .thermal (take .slack (take .lower (take .upper s)))).examineRunaway p v.sense) ∧
  (∀ (s : State) (p : PointId) (before now : PerKind Bool) (k : StopKind),
     let t := (s.point p).stop
     let present := match t.modes.get k with
       | .level => now.get k
       | .edge => now.get k && !before.get k
     let noted := (s.setStop p { t with flags := t.flags.set k true }).notifyAll .stopInput (.point p)
     (present = false ∨ t.flags.get k = true → s.stopFlag p before now k = s) ∧
     (present = true → t.flags.get k = false →
       (∀ g, (s.point p).group = some g → (s.group g).state = .moving → t.masks.get k = true →
         (k = .upper → (s.group g).dir = .up) → (k = .lower → (s.group g).dir = .down) →
         s.stopFlag p before now k = noted.faultGroup g .stopInput (some p)) ∧
       ((∀ g, (s.point p).group = some g → (s.group g).state ≠ .moving ∨ t.masks.get k = false ∨
           (k = .upper ∧ (s.group g).dir = .down) ∨ (k = .lower ∧ (s.group g).dir = .up)) →
         s.stopFlag p before now k = noted))) ∧
  ∀ (s : State) (q : Port) (tag b modes masks : Byte), s.Takes q →
    let clear := exec (.clearStopFlags q tag b) s
    let config := exec (.setStopConfig q tag b modes masks) s
    (pointOf b = none → clear = .next (s.answered q 0xD0 tag [3])) ∧
    (pointOf b = none ∨ 16 ≤ modes.toNat ∨ 16 ≤ masks.toNat → config = .next (s.answered q 0xD1 tag [3])) ∧
    ∀ p, pointOf b = some p →
      let t := (s.point p).stop
      let present := fun (k : StopKind) => match s.accepted p with
        | some v => v.stops.get k
        | none => false
      (clear = if t.runaway = true ∧ s.sense p ≠ some .still then .next (s.answered q 0xD0 tag [6])
        else
          let f := fun k => decide (t.modes.get k = .level) && present k
          let t' : StopPart := { t with flags := ⟨f .upper, f .lower, f .slack, f .thermal⟩, runaway := false }
          .next ((s.setStop p t').answered q 0xD0 tag [0, flagsByte t'])) ∧
      ∀ d e, modesOf modes = some d → masksOf masks = some e →
        ((∃ g, (s.point p).group = some g ∧ ((s.group g).state = .moving ∨ (s.group g).state = .stopping)) →
          config = .next (s.answered q 0xD1 tag [6])) ∧
        ((∀ g, (s.point p).group = some g → (s.group g).state ≠ .moving ∧ (s.group g).state ≠ .stopping) →
          let turned := fun k => decide (t.modes.get k = .edge) && decide (d.get k = .level) && present k
          let f := fun k => t.flags.get k || turned k
          let t' : StopPart := ⟨⟨f .upper, f .lower, f .slack, f .thermal⟩, d, e, t.runaway⟩
          let newly := [StopKind.upper, .lower, .slack, .thermal].filter fun k => turned k && !t.flags.get k
          config = .next ((newly.foldl (fun u _ => u.notifyAll .stopInput (.point p)) (s.setStop p t')).answered q 0xD1
            tag [0, modes, masks]).flushPrompts)

/-- R130 to R132 and R128, R129: a trip of a CLOSED mains records its cause, raises MAINS_TRIPPED at every port and
sends every MOVING or STOPPING group its fault request in group order (R114: each with its GROUP_FAULT and the FAULTED
report of a cued move); a TRIPPED mains stays. MAINS_CLOSE is refused for an ACTIVE ESTOP, then for the
lowest-numbered runaway point; MAINS_OPEN trips; the ESTOP line trips at its fall and leaves the mains alone at its
rise. Out of reset the MAINS line energises the contactor exactly while the mains is CLOSED. A line event to the level
the view has already is no event, and an allowance expiry before its time does nothing: these are the model's choices
(log entries 6 and 2). R125 and R126: motion accepted, or standing, once the allowance has run out sets a clear
runaway flag, raises RUNAWAY at every port and trips the mains; motion within 1500 ms of the mark, a hoist that is
STILL, and a flag already set give nothing. -/
def Obligations.MainsTripsClosesAndRunsAway : Prop :=
  (∀ s : State, s.inReset = false → (s.mainsLine = true ↔ s.stopUnit.mains = .closed)) ∧
  ((∀ (s : State) (c : TripCause),
     (s.stopUnit.mains = .tripped → s.tripMains c = s) ∧
     (s.stopUnit.mains = .closed → let t := s.tripMains c
       let noted := (s.setStopUnit { s.stopUnit with mains := .tripped, tripCause := c }).notifyAll .mainsTripped
         (match c with
         | .opened q => .port q
         | .runaway p => .point p
         | _ => .none)
       (∀ g, t.group g = if (s.group g).state = .moving ∨ (s.group g).state = .stopping then
           (match c with
           | .estop => (s.group g).faulted .estop none
           | .runaway p => if (s.point p).group = some g then (s.group g).faulted .runaway (some p)
             else (s.group g).faulted .mains none
           | _ => (s.group g).faulted .mains none)
         else s.group g) ∧
       t = { noted with groups := t.groups, notices := t.notices, cue := t.cue } ∧
       t = (allGroups.filter fun g => (s.group g).state == .moving || (s.group g).state == .stopping).foldl (fun u g =>
         match c with
         | .estop => u.faultGroup g .estop none
         | .runaway p => if (s.point p).group = some g then u.faultGroup g .runaway (some p) else u.faultGroup g .mains none
         | _ => u.faultGroup g .mains none) noted ∧
       ((∀ g, (s.group g).state ≠ .moving ∧ (s.group g).state ≠ .stopping) → t = noted))) ∧
   (∀ (s : State) (q : Port) (tag : Byte), s.Takes q →
     (s.stopUnit.estop = true → exec (.mainsClose q tag) s = .next (s.answered q 0xD2 tag [8, 7, 0])) ∧
     (s.stopUnit.estop = false → ∀ p, (s.point p).stop.runaway = true → (∀ k, k < p → (s.point k).stop.runaway = false) →
       exec (.mainsClose q tag) s = .next (s.answered q 0xD2 tag [8, 15, pointByte p])) ∧
     (s.stopUnit.estop = false → (∀ p, (s.point p).stop.runaway = false) → exec (.mainsClose q tag) s =
       .next ((s.setStopUnit { s.stopUnit with mains := .closed }).answered q 0xD2 tag [0, 0])) ∧
     exec (.mainsOpen q tag) s = .next ((s.tripMains (.opened q)).answered q 0xD3 tag [0, 1]).flushPrompts) ∧
   ∀ s : State, s.inReset = false → s.Quiet →
     exec .estopAssertion s = (if s.stopUnit.estop then .next s
       else .next (((s.setStopUnit { s.stopUnit with estop := true }).notifyAll .estop .none).tripMains .estop).flushPrompts) ∧
     exec .estopRelease s = if s.stopUnit.estop then
       .next ((s.setStopUnit { s.stopUnit with estop := false }).notifyAll .estopClear .none).flushPrompts else .next s) ∧
  ∀ (s : State) (p : PointId),
    let flagged := ((s.setStop p { (s.point p).stop with runaway := true }).notifyAll .runaway (.point p)).tripMains
      (.runaway p)
    (∀ v : Sense, s.examineRunaway p v =
      if v ≠ .still ∧ (∀ t, (s.point p).lastRun = some t → t + 1500 ≤ s.now) ∧ (s.point p).stop.runaway = false then flagged
      else s) ∧
    (s.inReset = false → s.Quiet →
      (∀ t, (s.point p).lastRun = some t → t + 1500 ≤ s.now → (s.point p).boundSlot ≠ none →
        s.sense p = some .up ∨ s.sense p = some .down → (s.point p).stop.runaway = false →
        exec (.runawayAllowanceExpiry p) s = .next flagged.flushPrompts) ∧
      ((s.point p).lastRun = none ∨ (∃ t, (s.point p).lastRun = some t ∧ s.now < t + 1500) ∨
        (s.point p).boundSlot = none ∨ s.sense p = none ∨ s.sense p = some .still ∨ (s.point p).stop.runaway = true →
        exec (.runawayAllowanceExpiry p) s = .next s))

/-- R134 and R135: GRID_HOLD_SET adds the requesting port once, with GRID_HOLD at every port, and sends every MOVING
group a stop with cause HOLD, in group order (R110, R112: one that ends at once with its GROUP_STOPPED and the STOPPED
report of a cued move); GRID_HOLD_CLEAR removes the requesting port or the one named, with GRID_HOLD_CLEAR naming the
clearer; each answers the set after it. -/
def Obligations.GridHoldsStopTheRig : Prop :=
  (∀ (s : State) (q : Port) (tag : Byte), s.Takes q →
    let hold := fun (r : Port) (v : Bool) => { s.stopUnit with hold := s.stopUnit.hold.set r v }
    let after := fun (v : StopUnit) => [0, portSetByte v.hold]
    (exec (.gridHoldSet q tag) s = if s.stopUnit.hold.get q then .next (s.answered q 0xD4 tag (after s.stopUnit))
      else .next ((((s.setStopUnit (hold q true)).notifyAll .gridHold (.port q)).stopAll .hold).answered q 0xD4 tag
        (after (hold q true))).flushPrompts) ∧
    (∀ b, portOf b = none → exec (.gridHoldClear q tag (some b)) s = .next (s.answered q 0xD5 tag [3])) ∧
    ∀ target r, (target = none ∧ r = q ∨ ∃ b, target = some b ∧ portOf b = some r) →
      exec (.gridHoldClear q tag target) s = if s.stopUnit.hold.get r then
        .next (((s.setStopUnit (hold r false)).notifyAll .gridHoldClear (.port q)).answered q 0xD5 tag
          (after (hold r false))).flushPrompts
      else .next (s.answered q 0xD5 tag (after s.stopUnit))) ∧
  ∀ (s : State), let t := s.stopAll .hold
    t = (allGroups.filter fun g => (s.group g).state == .moving).foldl (fun u g => u.stopGroup g .hold) s ∧
    (∀ g, t.group g = if (s.group g).state = .moving then
        (if s.AllStill g then ((s.group g).stopped .hold).atRest else (s.group g).stopped .hold)
      else s.group g) ∧
    t = { s with groups := t.groups, notices := t.notices, cue := t.cue }

/-! ## Cues -/

/-- R138 to R142 and R149: the owner's edits of the list and the engine: each is refused NOT_HOLDER to any other port,
the write, clear, arm and skip BUSY in the states their rules name, and an argument out of range BAD_ARGUMENT;
accepted, each changes the engine's fields its rule names and answers what it states. CUE_OWN goes by the owner and
its link. -/
def Obligations.CueListAndEngineAreEdited : Prop :=
  ∀ (s : State) (q : Port) (tag : Byte), s.Takes q →
    let c := s.cue
    let done := fun (c' : Cue) (typ : Byte) (payload : List Byte) =>
      Host.Outcome.next (φ := Fault) (ρ := Refusal) ((s.setCue c').answered q typ tag payload)
    (c.owner ≠ some q →
      (∀ i g a v f, exec (.cueWrite q tag i g a v f) s = done c 0xE0 [4]) ∧ exec (.cueClear q tag) s = done c 0xE1 [4] ∧
      exec (.cueDisown q tag) s = done c 0xE3 [4] ∧ (∀ x m, exec (.cueConfig q tag x m) s = done c 0xE4 [4]) ∧
      (∀ j, exec (.cueArm q tag j) s = done c 0xE5 [4]) ∧ exec (.cueOff q tag) s = done c 0xE6 [4] ∧
      exec (.cueGo q tag) s = done c 0xE7 [4] ∧ exec (.cueSkip q tag) s = done c 0xE8 [4]) ∧
    (exec (.cueOwn q tag) s = match c.owner with
      | none => done { c with owner := some q } 0xE2 [0]
      | some o => if o = q then done c 0xE2 [0]
        else if (s.port o).link = .down then done { c with owner := some q } 0xE2 [0]
        else done c 0xE2 [5, portByte o]) ∧
    (c.owner = some q →
      (∀ i g a v f, exec (.cueWrite q tag i g a v f) s =
        if c.state = .running then done c 0xE0 [6]
        else match groupOf g, cueActionOf a, yesNoOf f with
          | some h, some act, some fol =>
            if 63 < i.toNat ∨ c.list.length < i.toNat ∨ (act = .moveTo ∧ ¬ (-1000 ≤ v.toInt ∧ v.toInt ≤ 66535)) ∨
              (act = .moveBy ∧ ¬ (-66535 ≤ v.toInt ∧ v.toInt ≤ 66535)) then done c 0xE0 [3]
            else
              let entry : CueEntry := ⟨h, act, if act = .stop then 0 else v.toInt, fol⟩
              let l := c.list.take i.toNat ++ entry :: c.list.drop (i.toNat + 1)
              done { c with list := l } 0xE0 [0, byte l.length]
          | _, _, _ => done c 0xE0 [3]) ∧
      (exec (.cueClear q tag) s = if c.state = .running then done c 0xE1 [6]
        else done { c with list := [], pointer := 0, state := .off, firedIndex := none, stall := none } 0xE1 [0]) ∧
      exec (.cueDisown q tag) s = done { c with owner := none, state := .off, firedGroup := none } 0xE3 [0] ∧
      (∀ x m, exec (.cueConfig q tag x m) s = match goSourceOf x, lineModeOf m with
        | some src, some mode => done { c with source := src, mode := mode, rearm := none } 0xE4 [0, x, m]
        | _, _ => done c 0xE4 [3]) ∧
      (∀ j : Option Byte, let k := (j.map fun b => b.toNat).getD c.pointer
        let st := if k < c.list.length then CueState.ready else .done
        exec (.cueArm q tag j) s = if c.state = .running then done c 0xE5 [6]
          else if j ≠ none ∧ c.list.length < k then done c 0xE5 [3]
          else done { c with pointer := k, state := st, stall := none } 0xE5 [0, st.code, byte k]) ∧
      exec (.cueOff q tag) s = done { c with state := .off, firedGroup := none } 0xE6 [0] ∧
      (c.state ≠ .ready → c.state ≠ .stalled → exec (.cueSkip q tag) s = done c 0xE8 [6]) ∧
      (c.state = .ready ∨ c.state = .stalled →
        let k := if c.pointer < c.list.length then c.pointer + 1 else c.pointer
        (k < c.list.length → exec (.cueSkip q tag) s =
          done { c with pointer := k, state := .ready, stall := none } 0xE8 [0, 1, byte k]) ∧
        (c.list.length ≤ k → exec (.cueSkip q tag) s =
          .next (((s.setCue { c with pointer := k, state := .done, stall := none }).notify q .cueEnd .none).answered q
            0xE8 tag [0, 4, byte k]).flushPrompts)))

/-- R147: firing the entry at the pointer. A STOP entry stops its group with cause CUE and moves the pointer on; a
MOVE_TO or MOVE_BY entry asks for a START with the owner as requester and origin CUE: refused, the engine stalls at
the entry with the result; answered OK, the pointer moves on and the engine waits for the group. R148: a completion
report is acted on only while RUNNING and for the fired group. DONE fires the next entry when the fired entry's
follow is yes and an entry is left; otherwise the engine is READY, or DONE with CUE_END at the list's end. STOPPED
and FAULTED stall it where the pointer stands. A fire that succeeds makes the stall result absent (R180). That a START
which ends at once has recorded its own notices before CUE_FIRED, and reports DONE after it, is the model's reading (log
entry 33). -/
def Obligations.CuesFireAndReport : Prop :=
  (∀ (s : State) (e : CueEntry), s.cue.list[s.cue.pointer]? = some e →
     let c := s.cue
     let k := c.pointer
     (e.action = .stop →
       let t := s.stopGroup e.group .cue
       let fired : Cue := { t.cue with firedIndex := some k, pointer := k + 1, stall := none }
       s.fire.2 = .fired ∧ s.fire.1 =
         if k + 1 < t.cue.list.length then
           (t.setCue { fired with state := .ready }).notifyOpt t.cue.owner .cueFired (.cue k)
         else ((t.setCue { fired with state := .done }).notifyOpt t.cue.owner .cueFired (.cue k)).notifyOpt t.cue.owner .cueEnd
           .none) ∧
     (∀ mv, (e.action = .moveTo ∧ mv = .height e.value) ∨ (e.action = .moveBy ∧ mv = .dist e.value) →
       (∀ t x, s.start c.owner .cue e.group mv = (t, .refused x) → s.fire =
         ((s.setCue { c with state := .stalled, stall := some (.refused x) }).notifyOpt c.owner .cueStall (.cue k),
           .refused)) ∧
       (∀ t, s.start c.owner .cue e.group mv = (t, .moving) → s.fire =
         ((t.setCue { c with
           firedIndex := some k
           pointer := k + 1
           firedGroup := some e.group
           state := .running
           stall := none }).notifyOpt c.owner .cueFired (.cue k), .fired)) ∧
       (∀ t, s.start c.owner .cue e.group mv = (t, .atOnce) → s.fire =
         (((t.setCue { c with
           firedIndex := some k
           pointer := k + 1
           firedGroup := some e.group
           state := .running
           stall := none }).notifyOpt c.owner .cueFired (.cue k)).cueCompleted e.group, .atOnce)))) ∧
  ∀ (s : State) (g : GroupId) (why : Stall),
    let c := s.cue
    (¬ (c.state = .running ∧ c.firedGroup = some g) → s.cueCompleted g = s ∧ s.cueFailed g why = s) ∧
    (c.state = .running → c.firedGroup = some g →
      let idle := s.setCue { c with firedGroup := none }
      let follow := (c.firedIndex.bind fun k => c.list[k]?).map CueEntry.follow = some true
      s.cueFailed g why = (s.setCue { c with firedGroup := none, state := .stalled, stall := some why }).notifyOpt c.owner
        .cueStall (match c.firedIndex with
          | some k => .cue k
          | none => .none) ∧
      (¬ follow ∨ c.list.length ≤ c.pointer → s.cueCompleted g =
        if c.pointer < c.list.length then s.setCue { c with firedGroup := none, state := .ready }
        else (s.setCue { c with firedGroup := none, state := .done }).notifyOpt c.owner .cueEnd .none) ∧
      (follow → c.pointer < c.list.length → idle.fireEntry.2 ≠ .atOnce → s.cueCompleted g = idle.fireEntry.1) ∧
      (follow → c.pointer < c.list.length → idle.fireEntry.2 = .atOnce → ∀ h, idle.fireEntry.1.cue.firedGroup = some h →
        idle.fireEntry.1.cue.state = .running ∧ s.cueCompleted g = idle.fireEntry.1.cueCompleted h))

/-- R145 and R146 for CUE_GO: refused unless the source takes it; then it fires in READY, retries in STALLED, is EARLY
in RUNNING with CUE_EARLY to the owner, and is IGNORED in OFF and DONE. That the data after the outcome are the
engine's fields after the GO is the model's reading (log entry 20), and that the outcome is that of the entry the GO
fires, whatever a follow in the same event comes to, its choice (log entry 39). R143, R144 and R146 for the CUE line:
a change is a GO when the source takes the line, the re-arm timer is stopped and the mode calls for it; an expiry is
one when a level mode finds its level held. A line GO starts the timer for 250 ms and fires in READY, gives CUE_EARLY
in RUNNING, and is ignored in every other state. That a CUE_LINE_CHANGE to the present level and a re-arm expiry
before its time do nothing are the model's choices (log entries 6 and 2). -/
def Obligations.GosActByStateAndSource : Prop :=
  (∀ (s : State) (q : Port) (tag : Byte), s.Takes q → s.cue.owner = some q →
     let c := s.cue
     let answer := fun (t : State) (code : Byte) => Host.Outcome.next (φ := Fault) (ρ := Refusal)
       (t.answered q 0xE7 tag ([0, code, optCue t.cue.firedIndex] ++ stallBytes t.cue.stall ++
         [t.cue.state.code, byte t.cue.pointer])).flushPrompts
     (c.source = .line → exec (.cueGo q tag) s = .next (s.answered q 0xE7 tag [8, 17, 0])) ∧
     (c.source ≠ .line →
       (c.state = .off ∨ c.state = .done → exec (.cueGo q tag) s = answer s 3) ∧
       (c.state = .running → exec (.cueGo q tag) s = answer (s.notify q .cueEarly (cueSubject c.firedIndex)) 2) ∧
       (c.state = .ready ∨ (c.state = .stalled ∧ c.pointer < c.list.length) →
         (s.fire.2 = .refused → exec (.cueGo q tag) s = answer s.fire.1 1) ∧
         (s.fire.2 ≠ .refused → exec (.cueGo q tag) s = answer s.fire.1 0)) ∧
       (c.state = .stalled → c.list.length ≤ c.pointer → exec (.cueGo q tag) s =
         answer ((s.setCue { c with state := .done }).notify q .cueEnd .none) 3))) ∧
  ∀ s : State, s.inReset = false → s.Quiet →
    let c := s.cue
    let go := fun (level : Level) =>
      let u := s.setCue { c with level := level, rearm := some (s.now + 250) }
      if c.state = .ready then .next u.fire.1.flushPrompts
      else if c.state = .running then .next (u.notifyOpt c.owner .cueEarly (cueSubject c.firedIndex)).flushPrompts
      else Host.Outcome.next (φ := Fault) (ρ := Refusal) u
    exec (.cueLineChange c.level) s = .next s ∧
    (∀ v, v ≠ c.level →
      let calls := (v = .high ∧ (c.mode = .rise ∨ c.mode = .high)) ∨ (v = .low ∧ (c.mode = .fall ∨ c.mode = .low))
      (c.source ≠ .console → c.rearm = none → calls → exec (.cueLineChange v) s = go v) ∧
      (c.source = .console ∨ c.rearm ≠ none ∨ ¬ calls →
        exec (.cueLineChange v) s = .next (s.setCue { c with level := v }))) ∧
    (∀ d, c.rearm = some d → d ≤ s.now →
      let held := (c.mode = .high ∧ c.level = .high) ∨ (c.mode = .low ∧ c.level = .low)
      (c.source ≠ .console → held → exec .rearmTimerExpiry s = go c.level) ∧
      (c.source = .console ∨ ¬ held → exec .rearmTimerExpiry s = .next (s.setCue { c with rearm := none }))) ∧
    ((∀ d, c.rearm = some d → s.now < d) → exec .rearmTimerExpiry s = .next s)

/-! ## The laws of the device -/

/-- R153, R156, R158 to R160, R164: every command keeps the ranges, timers and links of the ports. -/
def Obligations.EveryStepKeepsPortsSound : Prop :=
  ∀ s t : State, s.PortsSound → step s = .next t → t.PortsSound

/-- R167, R168, R172: every command keeps the notice sets within 32 distinct records, and leaves no prompt
standing; that the prompts of an event are gone at its end is the model's choice (log entry 26). -/
def Obligations.EveryStepKeepsNoticesSound : Prop :=
  ∀ s t : State, s.NoticesSound → step s = .next t → t.NoticesSound

/-- R2, R5 to R8, R26: every command keeps binding one to one, identities distinct, and the slot counters in range. -/
def Obligations.EveryStepKeepsBindingSound : Prop :=
  ∀ s t : State, s.BindingSound → s.CountersSound → step s = .next t → t.BindingSound ∧ t.CountersSound

/-- R68, R70: every command keeps the groups' lists and the points' group fields in step. -/
def Obligations.EveryStepKeepsMembershipSound : Prop :=
  ∀ s t : State, s.MembershipSound → step s = .next t → t.MembershipSound

/-- R127, R130, R134: every command keeps the laws of ESTOP, the mains and the grid hold. -/
def Obligations.EveryStepKeepsPowerSound : Prop :=
  ∀ s t : State, s.PowerSound → step s = .next t → t.PowerSound

/-- R111: after every command each MOVING group has a holder whose link is UP and whose enable is ACTIVE. -/
def Obligations.EveryStepKeepsDriveSound : Prop :=
  ∀ s t : State, s.DriveSound → step s = .next t → t.DriveSound

/-- R137: every command keeps the law of the cue list and the engine. -/
def Obligations.EveryStepKeepsCueSound : Prop :=
  ∀ s t : State, s.CueSound → step s = .next t → t.CueSound

/-- R92: after every command each target of a MOVING group lies within its point's soft limits. -/
def Obligations.EveryStepKeepsTargetsSound : Prop :=
  ∀ s t : State, s.MembershipSound → s.TargetsSound → step s = .next t → t.TargetsSound

/-- R45, R47, R50: every command keeps the load parts' ranges and the law that a load value needs a full window and a
calibration. -/
def Obligations.EveryStepKeepsLoadsSound : Prop :=
  ∀ s t : State, s.LoadsSound → step s = .next t → t.LoadsSound

/-- R40 and R42: every command keeps one join entry per slot, of the kind its state calls for, and the limits of the
port service queue. -/
def Obligations.EveryStepKeepsServiceSound : Prop :=
  ∀ s t : State, s.BindingSound → s.ServiceSound → step s = .next t → t.ServiceSound

/-- R2, R82, R102, Table 5-2: every command keeps the soft limits, trims, bands, stop leads and share-settle counts in
their ranges. -/
def Obligations.EveryStepKeepsRangesSound : Prop :=
  ∀ s t : State, s.RangesSound → step s = .next t → t.RangesSound
end

