-- ==== Sys2Proof/Laws/State.lean ====
section
/-! SUPPORT. The state's updates, field by field: what each leaves and what it sets. -/

namespace Sys2Proof.Machine

/-! ## Small collections -/

@[simp] theorem PerPort.get_set {α : Type} (v : PerPort α) (p q : Port) (x : α) :
    (v.set p x).get q = if q = p then x else v.get q := by cases p <;> cases q <;> rfl

@[simp] theorem PerKind.get_set {α : Type} (v : PerKind α) (k j : StopKind) (x : α) :
    (v.set k x).get j = if j = k then x else v.get j := by cases k <;> cases j <;> rfl

theorem PerPort.ext_get {α : Type} {v w : PerPort α} (h : ∀ q, v.get q = w.get q) : v = w := by
  cases v; cases w; simp only [PerPort.mk.injEq]; exact ⟨h .a, h .b, h .c⟩

theorem PerKind.ext_get {α : Type} {v w : PerKind α} (h : ∀ k, v.get k = w.get k) : v = w := by
  cases v; cases w; simp only [PerKind.mk.injEq]; exact ⟨h .upper, h .lower, h .slack, h .thermal⟩

@[simp] theorem PerPort.set_get {α : Type} (v : PerPort α) (p : Port) : v.set p (v.get p) = v := by cases p <;> rfl

@[simp] theorem PerPort.set_set {α : Type} (v : PerPort α) (p : Port) (x y : α) : (v.set p x).set p y = v.set p y := by
  cases p <;> rfl

/-! ## setPoint -/

@[simp] theorem State.setPoint_pending (s : State) (p : PointId) (r : PointRec) : (s.setPoint p r).pending = s.pending := rfl
@[simp] theorem State.setPoint_inReset (s : State) (p : PointId) (r : PointRec) : (s.setPoint p r).inReset = s.inReset := rfl
@[simp] theorem State.setPoint_now (s : State) (p : PointId) (r : PointRec) : (s.setPoint p r).now = s.now := rfl
@[simp] theorem State.setPoint_choice (s : State) (p : PointId) (r : PointRec) : (s.setPoint p r).choice = s.choice := rfl
@[simp] theorem State.setPoint_slots (s : State) (p : PointId) (r : PointRec) : (s.setPoint p r).slots = s.slots := rfl
@[simp] theorem State.setPoint_bus (s : State) (p : PointId) (r : PointRec) : (s.setPoint p r).bus = s.bus := rfl
@[simp] theorem State.setPoint_service (s : State) (p : PointId) (r : PointRec) : (s.setPoint p r).service = s.service := rfl
@[simp] theorem State.setPoint_groups (s : State) (p : PointId) (r : PointRec) : (s.setPoint p r).groups = s.groups := rfl
@[simp] theorem State.setPoint_stopUnit (s : State) (p : PointId) (r : PointRec) : (s.setPoint p r).stopUnit = s.stopUnit := rfl
@[simp] theorem State.setPoint_cue (s : State) (p : PointId) (r : PointRec) : (s.setPoint p r).cue = s.cue := rfl
@[simp] theorem State.setPoint_ports (s : State) (p : PointId) (r : PointRec) : (s.setPoint p r).ports = s.ports := rfl
@[simp] theorem State.setPoint_notices (s : State) (p : PointId) (r : PointRec) : (s.setPoint p r).notices = s.notices := rfl
@[simp] theorem State.setPoint_warn (s : State) (p : PointId) (r : PointRec) : (s.setPoint p r).warn = s.warn := rfl
@[simp] theorem State.setPoint_slot (s : State) (p : PointId) (r : PointRec) (x : SlotId) : (s.setPoint p r).slot x = s.slot x := rfl
@[simp] theorem State.setPoint_group (s : State) (p : PointId) (r : PointRec) (x : GroupId) : (s.setPoint p r).group x = s.group x := rfl
@[simp] theorem State.setPoint_port (s : State) (p : PointId) (r : PointRec) (x : Port) : (s.setPoint p r).port x = s.port x := rfl
@[simp] theorem State.setPoint_notice (s : State) (p : PointId) (r : PointRec) (x : Port) : (s.setPoint p r).notice x = s.notice x := rfl

/-! ## setSlot -/

@[simp] theorem State.setSlot_pending (s : State) (n : SlotId) (r : SlotRec) : (s.setSlot n r).pending = s.pending := rfl
@[simp] theorem State.setSlot_inReset (s : State) (n : SlotId) (r : SlotRec) : (s.setSlot n r).inReset = s.inReset := rfl
@[simp] theorem State.setSlot_now (s : State) (n : SlotId) (r : SlotRec) : (s.setSlot n r).now = s.now := rfl
@[simp] theorem State.setSlot_choice (s : State) (n : SlotId) (r : SlotRec) : (s.setSlot n r).choice = s.choice := rfl
@[simp] theorem State.setSlot_points (s : State) (n : SlotId) (r : SlotRec) : (s.setSlot n r).points = s.points := rfl
@[simp] theorem State.setSlot_bus (s : State) (n : SlotId) (r : SlotRec) : (s.setSlot n r).bus = s.bus := rfl
@[simp] theorem State.setSlot_service (s : State) (n : SlotId) (r : SlotRec) : (s.setSlot n r).service = s.service := rfl
@[simp] theorem State.setSlot_groups (s : State) (n : SlotId) (r : SlotRec) : (s.setSlot n r).groups = s.groups := rfl
@[simp] theorem State.setSlot_stopUnit (s : State) (n : SlotId) (r : SlotRec) : (s.setSlot n r).stopUnit = s.stopUnit := rfl
@[simp] theorem State.setSlot_cue (s : State) (n : SlotId) (r : SlotRec) : (s.setSlot n r).cue = s.cue := rfl
@[simp] theorem State.setSlot_ports (s : State) (n : SlotId) (r : SlotRec) : (s.setSlot n r).ports = s.ports := rfl
@[simp] theorem State.setSlot_notices (s : State) (n : SlotId) (r : SlotRec) : (s.setSlot n r).notices = s.notices := rfl
@[simp] theorem State.setSlot_warn (s : State) (n : SlotId) (r : SlotRec) : (s.setSlot n r).warn = s.warn := rfl
@[simp] theorem State.setSlot_point (s : State) (n : SlotId) (r : SlotRec) (x : PointId) : (s.setSlot n r).point x = s.point x := rfl
@[simp] theorem State.setSlot_group (s : State) (n : SlotId) (r : SlotRec) (x : GroupId) : (s.setSlot n r).group x = s.group x := rfl
@[simp] theorem State.setSlot_port (s : State) (n : SlotId) (r : SlotRec) (x : Port) : (s.setSlot n r).port x = s.port x := rfl
@[simp] theorem State.setSlot_notice (s : State) (n : SlotId) (r : SlotRec) (x : Port) : (s.setSlot n r).notice x = s.notice x := rfl

/-! ## setGroup -/

@[simp] theorem State.setGroup_pending (s : State) (g : GroupId) (r : GroupRec) : (s.setGroup g r).pending = s.pending := rfl
@[simp] theorem State.setGroup_inReset (s : State) (g : GroupId) (r : GroupRec) : (s.setGroup g r).inReset = s.inReset := rfl
@[simp] theorem State.setGroup_now (s : State) (g : GroupId) (r : GroupRec) : (s.setGroup g r).now = s.now := rfl
@[simp] theorem State.setGroup_choice (s : State) (g : GroupId) (r : GroupRec) : (s.setGroup g r).choice = s.choice := rfl
@[simp] theorem State.setGroup_points (s : State) (g : GroupId) (r : GroupRec) : (s.setGroup g r).points = s.points := rfl
@[simp] theorem State.setGroup_slots (s : State) (g : GroupId) (r : GroupRec) : (s.setGroup g r).slots = s.slots := rfl
@[simp] theorem State.setGroup_bus (s : State) (g : GroupId) (r : GroupRec) : (s.setGroup g r).bus = s.bus := rfl
@[simp] theorem State.setGroup_service (s : State) (g : GroupId) (r : GroupRec) : (s.setGroup g r).service = s.service := rfl
@[simp] theorem State.setGroup_stopUnit (s : State) (g : GroupId) (r : GroupRec) : (s.setGroup g r).stopUnit = s.stopUnit := rfl
@[simp] theorem State.setGroup_cue (s : State) (g : GroupId) (r : GroupRec) : (s.setGroup g r).cue = s.cue := rfl
@[simp] theorem State.setGroup_ports (s : State) (g : GroupId) (r : GroupRec) : (s.setGroup g r).ports = s.ports := rfl
@[simp] theorem State.setGroup_notices (s : State) (g : GroupId) (r : GroupRec) : (s.setGroup g r).notices = s.notices := rfl
@[simp] theorem State.setGroup_warn (s : State) (g : GroupId) (r : GroupRec) : (s.setGroup g r).warn = s.warn := rfl
@[simp] theorem State.setGroup_point (s : State) (g : GroupId) (r : GroupRec) (x : PointId) : (s.setGroup g r).point x = s.point x := rfl
@[simp] theorem State.setGroup_slot (s : State) (g : GroupId) (r : GroupRec) (x : SlotId) : (s.setGroup g r).slot x = s.slot x := rfl
@[simp] theorem State.setGroup_port (s : State) (g : GroupId) (r : GroupRec) (x : Port) : (s.setGroup g r).port x = s.port x := rfl
@[simp] theorem State.setGroup_notice (s : State) (g : GroupId) (r : GroupRec) (x : Port) : (s.setGroup g r).notice x = s.notice x := rfl

/-! ## setPort -/

@[simp] theorem State.setPort_pending (s : State) (q : Port) (r : PortRec) : (s.setPort q r).pending = s.pending := rfl
@[simp] theorem State.setPort_inReset (s : State) (q : Port) (r : PortRec) : (s.setPort q r).inReset = s.inReset := rfl
@[simp] theorem State.setPort_now (s : State) (q : Port) (r : PortRec) : (s.setPort q r).now = s.now := rfl
@[simp] theorem State.setPort_choice (s : State) (q : Port) (r : PortRec) : (s.setPort q r).choice = s.choice := rfl
@[simp] theorem State.setPort_points (s : State) (q : Port) (r : PortRec) : (s.setPort q r).points = s.points := rfl
@[simp] theorem State.setPort_slots (s : State) (q : Port) (r : PortRec) : (s.setPort q r).slots = s.slots := rfl
@[simp] theorem State.setPort_bus (s : State) (q : Port) (r : PortRec) : (s.setPort q r).bus = s.bus := rfl
@[simp] theorem State.setPort_service (s : State) (q : Port) (r : PortRec) : (s.setPort q r).service = s.service := rfl
@[simp] theorem State.setPort_groups (s : State) (q : Port) (r : PortRec) : (s.setPort q r).groups = s.groups := rfl
@[simp] theorem State.setPort_stopUnit (s : State) (q : Port) (r : PortRec) : (s.setPort q r).stopUnit = s.stopUnit := rfl
@[simp] theorem State.setPort_cue (s : State) (q : Port) (r : PortRec) : (s.setPort q r).cue = s.cue := rfl
@[simp] theorem State.setPort_notices (s : State) (q : Port) (r : PortRec) : (s.setPort q r).notices = s.notices := rfl
@[simp] theorem State.setPort_warn (s : State) (q : Port) (r : PortRec) : (s.setPort q r).warn = s.warn := rfl
@[simp] theorem State.setPort_point (s : State) (q : Port) (r : PortRec) (x : PointId) : (s.setPort q r).point x = s.point x := rfl
@[simp] theorem State.setPort_slot (s : State) (q : Port) (r : PortRec) (x : SlotId) : (s.setPort q r).slot x = s.slot x := rfl
@[simp] theorem State.setPort_group (s : State) (q : Port) (r : PortRec) (x : GroupId) : (s.setPort q r).group x = s.group x := rfl
@[simp] theorem State.setPort_notice (s : State) (q : Port) (r : PortRec) (x : Port) : (s.setPort q r).notice x = s.notice x := rfl

/-! ## setNotice -/

@[simp] theorem State.setNotice_pending (s : State) (q : Port) (n : NoticeSet) : (s.setNotice q n).pending = s.pending := rfl
@[simp] theorem State.setNotice_inReset (s : State) (q : Port) (n : NoticeSet) : (s.setNotice q n).inReset = s.inReset := rfl
@[simp] theorem State.setNotice_now (s : State) (q : Port) (n : NoticeSet) : (s.setNotice q n).now = s.now := rfl
@[simp] theorem State.setNotice_choice (s : State) (q : Port) (n : NoticeSet) : (s.setNotice q n).choice = s.choice := rfl
@[simp] theorem State.setNotice_points (s : State) (q : Port) (n : NoticeSet) : (s.setNotice q n).points = s.points := rfl
@[simp] theorem State.setNotice_slots (s : State) (q : Port) (n : NoticeSet) : (s.setNotice q n).slots = s.slots := rfl
@[simp] theorem State.setNotice_bus (s : State) (q : Port) (n : NoticeSet) : (s.setNotice q n).bus = s.bus := rfl
@[simp] theorem State.setNotice_service (s : State) (q : Port) (n : NoticeSet) : (s.setNotice q n).service = s.service := rfl
@[simp] theorem State.setNotice_groups (s : State) (q : Port) (n : NoticeSet) : (s.setNotice q n).groups = s.groups := rfl
@[simp] theorem State.setNotice_stopUnit (s : State) (q : Port) (n : NoticeSet) : (s.setNotice q n).stopUnit = s.stopUnit := rfl
@[simp] theorem State.setNotice_cue (s : State) (q : Port) (n : NoticeSet) : (s.setNotice q n).cue = s.cue := rfl
@[simp] theorem State.setNotice_ports (s : State) (q : Port) (n : NoticeSet) : (s.setNotice q n).ports = s.ports := rfl
@[simp] theorem State.setNotice_warn (s : State) (q : Port) (n : NoticeSet) : (s.setNotice q n).warn = s.warn := rfl
@[simp] theorem State.setNotice_point (s : State) (q : Port) (n : NoticeSet) (x : PointId) : (s.setNotice q n).point x = s.point x := rfl
@[simp] theorem State.setNotice_slot (s : State) (q : Port) (n : NoticeSet) (x : SlotId) : (s.setNotice q n).slot x = s.slot x := rfl
@[simp] theorem State.setNotice_group (s : State) (q : Port) (n : NoticeSet) (x : GroupId) : (s.setNotice q n).group x = s.group x := rfl
@[simp] theorem State.setNotice_port (s : State) (q : Port) (n : NoticeSet) (x : Port) : (s.setNotice q n).port x = s.port x := rfl

/-! ## setBus -/

@[simp] theorem State.setBus_pending (s : State) (b : Bus) : (s.setBus b).pending = s.pending := rfl
@[simp] theorem State.setBus_inReset (s : State) (b : Bus) : (s.setBus b).inReset = s.inReset := rfl
@[simp] theorem State.setBus_now (s : State) (b : Bus) : (s.setBus b).now = s.now := rfl
@[simp] theorem State.setBus_choice (s : State) (b : Bus) : (s.setBus b).choice = s.choice := rfl
@[simp] theorem State.setBus_points (s : State) (b : Bus) : (s.setBus b).points = s.points := rfl
@[simp] theorem State.setBus_slots (s : State) (b : Bus) : (s.setBus b).slots = s.slots := rfl
@[simp] theorem State.setBus_service (s : State) (b : Bus) : (s.setBus b).service = s.service := rfl
@[simp] theorem State.setBus_groups (s : State) (b : Bus) : (s.setBus b).groups = s.groups := rfl
@[simp] theorem State.setBus_stopUnit (s : State) (b : Bus) : (s.setBus b).stopUnit = s.stopUnit := rfl
@[simp] theorem State.setBus_cue (s : State) (b : Bus) : (s.setBus b).cue = s.cue := rfl
@[simp] theorem State.setBus_ports (s : State) (b : Bus) : (s.setBus b).ports = s.ports := rfl
@[simp] theorem State.setBus_notices (s : State) (b : Bus) : (s.setBus b).notices = s.notices := rfl
@[simp] theorem State.setBus_warn (s : State) (b : Bus) : (s.setBus b).warn = s.warn := rfl
@[simp] theorem State.setBus_bus (s : State) (b : Bus) : (s.setBus b).bus = b := rfl
@[simp] theorem State.setBus_point (s : State) (b : Bus) (x : PointId) : (s.setBus b).point x = s.point x := rfl
@[simp] theorem State.setBus_slot (s : State) (b : Bus) (x : SlotId) : (s.setBus b).slot x = s.slot x := rfl
@[simp] theorem State.setBus_group (s : State) (b : Bus) (x : GroupId) : (s.setBus b).group x = s.group x := rfl
@[simp] theorem State.setBus_port (s : State) (b : Bus) (x : Port) : (s.setBus b).port x = s.port x := rfl
@[simp] theorem State.setBus_notice (s : State) (b : Bus) (x : Port) : (s.setBus b).notice x = s.notice x := rfl

/-! ## setService -/

@[simp] theorem State.setService_pending (s : State) (e : Service) : (s.setService e).pending = s.pending := rfl
@[simp] theorem State.setService_inReset (s : State) (e : Service) : (s.setService e).inReset = s.inReset := rfl
@[simp] theorem State.setService_now (s : State) (e : Service) : (s.setService e).now = s.now := rfl
@[simp] theorem State.setService_choice (s : State) (e : Service) : (s.setService e).choice = s.choice := rfl
@[simp] theorem State.setService_points (s : State) (e : Service) : (s.setService e).points = s.points := rfl
@[simp] theorem State.setService_slots (s : State) (e : Service) : (s.setService e).slots = s.slots := rfl
@[simp] theorem State.setService_bus (s : State) (e : Service) : (s.setService e).bus = s.bus := rfl
@[simp] theorem State.setService_groups (s : State) (e : Service) : (s.setService e).groups = s.groups := rfl
@[simp] theorem State.setService_stopUnit (s : State) (e : Service) : (s.setService e).stopUnit = s.stopUnit := rfl
@[simp] theorem State.setService_cue (s : State) (e : Service) : (s.setService e).cue = s.cue := rfl
@[simp] theorem State.setService_ports (s : State) (e : Service) : (s.setService e).ports = s.ports := rfl
@[simp] theorem State.setService_notices (s : State) (e : Service) : (s.setService e).notices = s.notices := rfl
@[simp] theorem State.setService_warn (s : State) (e : Service) : (s.setService e).warn = s.warn := rfl
@[simp] theorem State.setService_service (s : State) (e : Service) : (s.setService e).service = e := rfl
@[simp] theorem State.setService_point (s : State) (e : Service) (x : PointId) : (s.setService e).point x = s.point x := rfl
@[simp] theorem State.setService_slot (s : State) (e : Service) (x : SlotId) : (s.setService e).slot x = s.slot x := rfl
@[simp] theorem State.setService_group (s : State) (e : Service) (x : GroupId) : (s.setService e).group x = s.group x := rfl
@[simp] theorem State.setService_port (s : State) (e : Service) (x : Port) : (s.setService e).port x = s.port x := rfl
@[simp] theorem State.setService_notice (s : State) (e : Service) (x : Port) : (s.setService e).notice x = s.notice x := rfl

/-! ## setStopUnit -/

@[simp] theorem State.setStopUnit_pending (s : State) (u : StopUnit) : (s.setStopUnit u).pending = s.pending := rfl
@[simp] theorem State.setStopUnit_inReset (s : State) (u : StopUnit) : (s.setStopUnit u).inReset = s.inReset := rfl
@[simp] theorem State.setStopUnit_now (s : State) (u : StopUnit) : (s.setStopUnit u).now = s.now := rfl
@[simp] theorem State.setStopUnit_choice (s : State) (u : StopUnit) : (s.setStopUnit u).choice = s.choice := rfl
@[simp] theorem State.setStopUnit_points (s : State) (u : StopUnit) : (s.setStopUnit u).points = s.points := rfl
@[simp] theorem State.setStopUnit_slots (s : State) (u : StopUnit) : (s.setStopUnit u).slots = s.slots := rfl
@[simp] theorem State.setStopUnit_bus (s : State) (u : StopUnit) : (s.setStopUnit u).bus = s.bus := rfl
@[simp] theorem State.setStopUnit_service (s : State) (u : StopUnit) : (s.setStopUnit u).service = s.service := rfl
@[simp] theorem State.setStopUnit_groups (s : State) (u : StopUnit) : (s.setStopUnit u).groups = s.groups := rfl
@[simp] theorem State.setStopUnit_cue (s : State) (u : StopUnit) : (s.setStopUnit u).cue = s.cue := rfl
@[simp] theorem State.setStopUnit_ports (s : State) (u : StopUnit) : (s.setStopUnit u).ports = s.ports := rfl
@[simp] theorem State.setStopUnit_notices (s : State) (u : StopUnit) : (s.setStopUnit u).notices = s.notices := rfl
@[simp] theorem State.setStopUnit_warn (s : State) (u : StopUnit) : (s.setStopUnit u).warn = s.warn := rfl
@[simp] theorem State.setStopUnit_stopUnit (s : State) (u : StopUnit) : (s.setStopUnit u).stopUnit = u := rfl
@[simp] theorem State.setStopUnit_point (s : State) (u : StopUnit) (x : PointId) : (s.setStopUnit u).point x = s.point x := rfl
@[simp] theorem State.setStopUnit_slot (s : State) (u : StopUnit) (x : SlotId) : (s.setStopUnit u).slot x = s.slot x := rfl
@[simp] theorem State.setStopUnit_group (s : State) (u : StopUnit) (x : GroupId) : (s.setStopUnit u).group x = s.group x := rfl
@[simp] theorem State.setStopUnit_port (s : State) (u : StopUnit) (x : Port) : (s.setStopUnit u).port x = s.port x := rfl
@[simp] theorem State.setStopUnit_notice (s : State) (u : StopUnit) (x : Port) : (s.setStopUnit u).notice x = s.notice x := rfl

/-! ## setCue -/

@[simp] theorem State.setCue_pending (s : State) (c : Cue) : (s.setCue c).pending = s.pending := rfl
@[simp] theorem State.setCue_inReset (s : State) (c : Cue) : (s.setCue c).inReset = s.inReset := rfl
@[simp] theorem State.setCue_now (s : State) (c : Cue) : (s.setCue c).now = s.now := rfl
@[simp] theorem State.setCue_choice (s : State) (c : Cue) : (s.setCue c).choice = s.choice := rfl
@[simp] theorem State.setCue_points (s : State) (c : Cue) : (s.setCue c).points = s.points := rfl
@[simp] theorem State.setCue_slots (s : State) (c : Cue) : (s.setCue c).slots = s.slots := rfl
@[simp] theorem State.setCue_bus (s : State) (c : Cue) : (s.setCue c).bus = s.bus := rfl
@[simp] theorem State.setCue_service (s : State) (c : Cue) : (s.setCue c).service = s.service := rfl
@[simp] theorem State.setCue_groups (s : State) (c : Cue) : (s.setCue c).groups = s.groups := rfl
@[simp] theorem State.setCue_stopUnit (s : State) (c : Cue) : (s.setCue c).stopUnit = s.stopUnit := rfl
@[simp] theorem State.setCue_ports (s : State) (c : Cue) : (s.setCue c).ports = s.ports := rfl
@[simp] theorem State.setCue_notices (s : State) (c : Cue) : (s.setCue c).notices = s.notices := rfl
@[simp] theorem State.setCue_warn (s : State) (c : Cue) : (s.setCue c).warn = s.warn := rfl
@[simp] theorem State.setCue_cue (s : State) (c : Cue) : (s.setCue c).cue = c := rfl
@[simp] theorem State.setCue_point (s : State) (c : Cue) (x : PointId) : (s.setCue c).point x = s.point x := rfl
@[simp] theorem State.setCue_slot (s : State) (c : Cue) (x : SlotId) : (s.setCue c).slot x = s.slot x := rfl
@[simp] theorem State.setCue_group (s : State) (c : Cue) (x : GroupId) : (s.setCue c).group x = s.group x := rfl
@[simp] theorem State.setCue_port (s : State) (c : Cue) (x : Port) : (s.setCue c).port x = s.port x := rfl
@[simp] theorem State.setCue_notice (s : State) (c : Cue) (x : Port) : (s.setCue c).notice x = s.notice x := rfl

/-! ## setWarn -/

@[simp] theorem State.setWarn_pending (s : State) (w : Warn) : (s.setWarn w).pending = s.pending := rfl
@[simp] theorem State.setWarn_inReset (s : State) (w : Warn) : (s.setWarn w).inReset = s.inReset := rfl
@[simp] theorem State.setWarn_now (s : State) (w : Warn) : (s.setWarn w).now = s.now := rfl
@[simp] theorem State.setWarn_choice (s : State) (w : Warn) : (s.setWarn w).choice = s.choice := rfl
@[simp] theorem State.setWarn_points (s : State) (w : Warn) : (s.setWarn w).points = s.points := rfl
@[simp] theorem State.setWarn_slots (s : State) (w : Warn) : (s.setWarn w).slots = s.slots := rfl
@[simp] theorem State.setWarn_bus (s : State) (w : Warn) : (s.setWarn w).bus = s.bus := rfl
@[simp] theorem State.setWarn_service (s : State) (w : Warn) : (s.setWarn w).service = s.service := rfl
@[simp] theorem State.setWarn_groups (s : State) (w : Warn) : (s.setWarn w).groups = s.groups := rfl
@[simp] theorem State.setWarn_stopUnit (s : State) (w : Warn) : (s.setWarn w).stopUnit = s.stopUnit := rfl
@[simp] theorem State.setWarn_cue (s : State) (w : Warn) : (s.setWarn w).cue = s.cue := rfl
@[simp] theorem State.setWarn_ports (s : State) (w : Warn) : (s.setWarn w).ports = s.ports := rfl
@[simp] theorem State.setWarn_notices (s : State) (w : Warn) : (s.setWarn w).notices = s.notices := rfl
@[simp] theorem State.setWarn_warn (s : State) (w : Warn) : (s.setWarn w).warn = w := rfl
@[simp] theorem State.setWarn_point (s : State) (w : Warn) (x : PointId) : (s.setWarn w).point x = s.point x := rfl
@[simp] theorem State.setWarn_slot (s : State) (w : Warn) (x : SlotId) : (s.setWarn w).slot x = s.slot x := rfl
@[simp] theorem State.setWarn_group (s : State) (w : Warn) (x : GroupId) : (s.setWarn w).group x = s.group x := rfl
@[simp] theorem State.setWarn_port (s : State) (w : Warn) (x : Port) : (s.setWarn w).port x = s.port x := rfl
@[simp] theorem State.setWarn_notice (s : State) (w : Warn) (x : Port) : (s.setWarn w).notice x = s.notice x := rfl

/-! ## setLoad -/

@[simp] theorem State.setLoad_pending (s : State) (p : PointId) (l : LoadPart) : (s.setLoad p l).pending = s.pending := rfl
@[simp] theorem State.setLoad_inReset (s : State) (p : PointId) (l : LoadPart) : (s.setLoad p l).inReset = s.inReset := rfl
@[simp] theorem State.setLoad_now (s : State) (p : PointId) (l : LoadPart) : (s.setLoad p l).now = s.now := rfl
@[simp] theorem State.setLoad_choice (s : State) (p : PointId) (l : LoadPart) : (s.setLoad p l).choice = s.choice := rfl
@[simp] theorem State.setLoad_slots (s : State) (p : PointId) (l : LoadPart) : (s.setLoad p l).slots = s.slots := rfl
@[simp] theorem State.setLoad_bus (s : State) (p : PointId) (l : LoadPart) : (s.setLoad p l).bus = s.bus := rfl
@[simp] theorem State.setLoad_service (s : State) (p : PointId) (l : LoadPart) : (s.setLoad p l).service = s.service := rfl
@[simp] theorem State.setLoad_groups (s : State) (p : PointId) (l : LoadPart) : (s.setLoad p l).groups = s.groups := rfl
@[simp] theorem State.setLoad_stopUnit (s : State) (p : PointId) (l : LoadPart) : (s.setLoad p l).stopUnit = s.stopUnit := rfl
@[simp] theorem State.setLoad_cue (s : State) (p : PointId) (l : LoadPart) : (s.setLoad p l).cue = s.cue := rfl
@[simp] theorem State.setLoad_ports (s : State) (p : PointId) (l : LoadPart) : (s.setLoad p l).ports = s.ports := rfl
@[simp] theorem State.setLoad_notices (s : State) (p : PointId) (l : LoadPart) : (s.setLoad p l).notices = s.notices := rfl
@[simp] theorem State.setLoad_warn (s : State) (p : PointId) (l : LoadPart) : (s.setLoad p l).warn = s.warn := rfl
@[simp] theorem State.setLoad_slot (s : State) (p : PointId) (l : LoadPart) (x : SlotId) : (s.setLoad p l).slot x = s.slot x := rfl
@[simp] theorem State.setLoad_group (s : State) (p : PointId) (l : LoadPart) (x : GroupId) : (s.setLoad p l).group x = s.group x := rfl
@[simp] theorem State.setLoad_port (s : State) (p : PointId) (l : LoadPart) (x : Port) : (s.setLoad p l).port x = s.port x := rfl
@[simp] theorem State.setLoad_notice (s : State) (p : PointId) (l : LoadPart) (x : Port) : (s.setLoad p l).notice x = s.notice x := rfl

/-! ## setStop -/

@[simp] theorem State.setStop_pending (s : State) (p : PointId) (t : StopPart) : (s.setStop p t).pending = s.pending := rfl
@[simp] theorem State.setStop_inReset (s : State) (p : PointId) (t : StopPart) : (s.setStop p t).inReset = s.inReset := rfl
@[simp] theorem State.setStop_now (s : State) (p : PointId) (t : StopPart) : (s.setStop p t).now = s.now := rfl
@[simp] theorem State.setStop_choice (s : State) (p : PointId) (t : StopPart) : (s.setStop p t).choice = s.choice := rfl
@[simp] theorem State.setStop_slots (s : State) (p : PointId) (t : StopPart) : (s.setStop p t).slots = s.slots := rfl
@[simp] theorem State.setStop_bus (s : State) (p : PointId) (t : StopPart) : (s.setStop p t).bus = s.bus := rfl
@[simp] theorem State.setStop_service (s : State) (p : PointId) (t : StopPart) : (s.setStop p t).service = s.service := rfl
@[simp] theorem State.setStop_groups (s : State) (p : PointId) (t : StopPart) : (s.setStop p t).groups = s.groups := rfl
@[simp] theorem State.setStop_stopUnit (s : State) (p : PointId) (t : StopPart) : (s.setStop p t).stopUnit = s.stopUnit := rfl
@[simp] theorem State.setStop_cue (s : State) (p : PointId) (t : StopPart) : (s.setStop p t).cue = s.cue := rfl
@[simp] theorem State.setStop_ports (s : State) (p : PointId) (t : StopPart) : (s.setStop p t).ports = s.ports := rfl
@[simp] theorem State.setStop_notices (s : State) (p : PointId) (t : StopPart) : (s.setStop p t).notices = s.notices := rfl
@[simp] theorem State.setStop_warn (s : State) (p : PointId) (t : StopPart) : (s.setStop p t).warn = s.warn := rfl
@[simp] theorem State.setStop_slot (s : State) (p : PointId) (t : StopPart) (x : SlotId) : (s.setStop p t).slot x = s.slot x := rfl
@[simp] theorem State.setStop_group (s : State) (p : PointId) (t : StopPart) (x : GroupId) : (s.setStop p t).group x = s.group x := rfl
@[simp] theorem State.setStop_port (s : State) (p : PointId) (t : StopPart) (x : Port) : (s.setStop p t).port x = s.port x := rfl
@[simp] theorem State.setStop_notice (s : State) (p : PointId) (t : StopPart) (x : Port) : (s.setStop p t).notice x = s.notice x := rfl

/-! ## setActive -/

@[simp] theorem State.setActive_pending (s : State) (j : Option Job) : (s.setActive j).pending = s.pending := rfl
@[simp] theorem State.setActive_inReset (s : State) (j : Option Job) : (s.setActive j).inReset = s.inReset := rfl
@[simp] theorem State.setActive_now (s : State) (j : Option Job) : (s.setActive j).now = s.now := rfl
@[simp] theorem State.setActive_choice (s : State) (j : Option Job) : (s.setActive j).choice = s.choice := rfl
@[simp] theorem State.setActive_points (s : State) (j : Option Job) : (s.setActive j).points = s.points := rfl
@[simp] theorem State.setActive_slots (s : State) (j : Option Job) : (s.setActive j).slots = s.slots := rfl
@[simp] theorem State.setActive_bus (s : State) (j : Option Job) : (s.setActive j).bus = s.bus := rfl
@[simp] theorem State.setActive_groups (s : State) (j : Option Job) : (s.setActive j).groups = s.groups := rfl
@[simp] theorem State.setActive_stopUnit (s : State) (j : Option Job) : (s.setActive j).stopUnit = s.stopUnit := rfl
@[simp] theorem State.setActive_cue (s : State) (j : Option Job) : (s.setActive j).cue = s.cue := rfl
@[simp] theorem State.setActive_ports (s : State) (j : Option Job) : (s.setActive j).ports = s.ports := rfl
@[simp] theorem State.setActive_notices (s : State) (j : Option Job) : (s.setActive j).notices = s.notices := rfl
@[simp] theorem State.setActive_warn (s : State) (j : Option Job) : (s.setActive j).warn = s.warn := rfl
@[simp] theorem State.setActive_service (s : State) (j : Option Job) : (s.setActive j).service = { s.service with active := j } := rfl
@[simp] theorem State.setActive_point (s : State) (j : Option Job) (x : PointId) : (s.setActive j).point x = s.point x := rfl
@[simp] theorem State.setActive_slot (s : State) (j : Option Job) (x : SlotId) : (s.setActive j).slot x = s.slot x := rfl
@[simp] theorem State.setActive_group (s : State) (j : Option Job) (x : GroupId) : (s.setActive j).group x = s.group x := rfl
@[simp] theorem State.setActive_port (s : State) (j : Option Job) (x : Port) : (s.setActive j).port x = s.port x := rfl
@[simp] theorem State.setActive_notice (s : State) (j : Option Job) (x : Port) : (s.setActive j).notice x = s.notice x := rfl

/-! ## setJoinList -/

@[simp] theorem State.setJoinList_pending (s : State) (l : List JoinEntry) : (s.setJoinList l).pending = s.pending := rfl
@[simp] theorem State.setJoinList_inReset (s : State) (l : List JoinEntry) : (s.setJoinList l).inReset = s.inReset := rfl
@[simp] theorem State.setJoinList_now (s : State) (l : List JoinEntry) : (s.setJoinList l).now = s.now := rfl
@[simp] theorem State.setJoinList_choice (s : State) (l : List JoinEntry) : (s.setJoinList l).choice = s.choice := rfl
@[simp] theorem State.setJoinList_points (s : State) (l : List JoinEntry) : (s.setJoinList l).points = s.points := rfl
@[simp] theorem State.setJoinList_slots (s : State) (l : List JoinEntry) : (s.setJoinList l).slots = s.slots := rfl
@[simp] theorem State.setJoinList_bus (s : State) (l : List JoinEntry) : (s.setJoinList l).bus = s.bus := rfl
@[simp] theorem State.setJoinList_groups (s : State) (l : List JoinEntry) : (s.setJoinList l).groups = s.groups := rfl
@[simp] theorem State.setJoinList_stopUnit (s : State) (l : List JoinEntry) : (s.setJoinList l).stopUnit = s.stopUnit := rfl
@[simp] theorem State.setJoinList_cue (s : State) (l : List JoinEntry) : (s.setJoinList l).cue = s.cue := rfl
@[simp] theorem State.setJoinList_ports (s : State) (l : List JoinEntry) : (s.setJoinList l).ports = s.ports := rfl
@[simp] theorem State.setJoinList_notices (s : State) (l : List JoinEntry) : (s.setJoinList l).notices = s.notices := rfl
@[simp] theorem State.setJoinList_warn (s : State) (l : List JoinEntry) : (s.setJoinList l).warn = s.warn := rfl
@[simp] theorem State.setJoinList_service (s : State) (l : List JoinEntry) : (s.setJoinList l).service = { s.service with joinList := l } := rfl
@[simp] theorem State.setJoinList_point (s : State) (l : List JoinEntry) (x : PointId) : (s.setJoinList l).point x = s.point x := rfl
@[simp] theorem State.setJoinList_slot (s : State) (l : List JoinEntry) (x : SlotId) : (s.setJoinList l).slot x = s.slot x := rfl
@[simp] theorem State.setJoinList_group (s : State) (l : List JoinEntry) (x : GroupId) : (s.setJoinList l).group x = s.group x := rfl
@[simp] theorem State.setJoinList_port (s : State) (l : List JoinEntry) (x : Port) : (s.setJoinList l).port x = s.port x := rfl
@[simp] theorem State.setJoinList_notice (s : State) (l : List JoinEntry) (x : Port) : (s.setJoinList l).notice x = s.notice x := rfl

/-! ## setPortQueue -/

@[simp] theorem State.setPortQueue_pending (s : State) (l : List PortEntry) : (s.setPortQueue l).pending = s.pending := rfl
@[simp] theorem State.setPortQueue_inReset (s : State) (l : List PortEntry) : (s.setPortQueue l).inReset = s.inReset := rfl
@[simp] theorem State.setPortQueue_now (s : State) (l : List PortEntry) : (s.setPortQueue l).now = s.now := rfl
@[simp] theorem State.setPortQueue_choice (s : State) (l : List PortEntry) : (s.setPortQueue l).choice = s.choice := rfl
@[simp] theorem State.setPortQueue_points (s : State) (l : List PortEntry) : (s.setPortQueue l).points = s.points := rfl
@[simp] theorem State.setPortQueue_slots (s : State) (l : List PortEntry) : (s.setPortQueue l).slots = s.slots := rfl
@[simp] theorem State.setPortQueue_bus (s : State) (l : List PortEntry) : (s.setPortQueue l).bus = s.bus := rfl
@[simp] theorem State.setPortQueue_groups (s : State) (l : List PortEntry) : (s.setPortQueue l).groups = s.groups := rfl
@[simp] theorem State.setPortQueue_stopUnit (s : State) (l : List PortEntry) : (s.setPortQueue l).stopUnit = s.stopUnit := rfl
@[simp] theorem State.setPortQueue_cue (s : State) (l : List PortEntry) : (s.setPortQueue l).cue = s.cue := rfl
@[simp] theorem State.setPortQueue_ports (s : State) (l : List PortEntry) : (s.setPortQueue l).ports = s.ports := rfl
@[simp] theorem State.setPortQueue_notices (s : State) (l : List PortEntry) : (s.setPortQueue l).notices = s.notices := rfl
@[simp] theorem State.setPortQueue_warn (s : State) (l : List PortEntry) : (s.setPortQueue l).warn = s.warn := rfl
@[simp] theorem State.setPortQueue_service (s : State) (l : List PortEntry) : (s.setPortQueue l).service = { s.service with portQueue := l } := rfl
@[simp] theorem State.setPortQueue_point (s : State) (l : List PortEntry) (x : PointId) : (s.setPortQueue l).point x = s.point x := rfl
@[simp] theorem State.setPortQueue_slot (s : State) (l : List PortEntry) (x : SlotId) : (s.setPortQueue l).slot x = s.slot x := rfl
@[simp] theorem State.setPortQueue_group (s : State) (l : List PortEntry) (x : GroupId) : (s.setPortQueue l).group x = s.group x := rfl
@[simp] theorem State.setPortQueue_port (s : State) (l : List PortEntry) (x : Port) : (s.setPortQueue l).port x = s.port x := rfl
@[simp] theorem State.setPortQueue_notice (s : State) (l : List PortEntry) (x : Port) : (s.setPortQueue l).notice x = s.notice x := rfl

/-! ## oweIdle -/

@[simp] theorem State.oweIdle_pending (s : State) (n : SlotId) : (s.oweIdle n).pending = s.pending := rfl
@[simp] theorem State.oweIdle_inReset (s : State) (n : SlotId) : (s.oweIdle n).inReset = s.inReset := rfl
@[simp] theorem State.oweIdle_now (s : State) (n : SlotId) : (s.oweIdle n).now = s.now := rfl
@[simp] theorem State.oweIdle_choice (s : State) (n : SlotId) : (s.oweIdle n).choice = s.choice := rfl
@[simp] theorem State.oweIdle_points (s : State) (n : SlotId) : (s.oweIdle n).points = s.points := rfl
@[simp] theorem State.oweIdle_bus (s : State) (n : SlotId) : (s.oweIdle n).bus = s.bus := rfl
@[simp] theorem State.oweIdle_service (s : State) (n : SlotId) : (s.oweIdle n).service = s.service := rfl
@[simp] theorem State.oweIdle_groups (s : State) (n : SlotId) : (s.oweIdle n).groups = s.groups := rfl
@[simp] theorem State.oweIdle_stopUnit (s : State) (n : SlotId) : (s.oweIdle n).stopUnit = s.stopUnit := rfl
@[simp] theorem State.oweIdle_cue (s : State) (n : SlotId) : (s.oweIdle n).cue = s.cue := rfl
@[simp] theorem State.oweIdle_ports (s : State) (n : SlotId) : (s.oweIdle n).ports = s.ports := rfl
@[simp] theorem State.oweIdle_notices (s : State) (n : SlotId) : (s.oweIdle n).notices = s.notices := rfl
@[simp] theorem State.oweIdle_warn (s : State) (n : SlotId) : (s.oweIdle n).warn = s.warn := rfl
@[simp] theorem State.oweIdle_point (s : State) (n : SlotId) (x : PointId) : (s.oweIdle n).point x = s.point x := rfl
@[simp] theorem State.oweIdle_group (s : State) (n : SlotId) (x : GroupId) : (s.oweIdle n).group x = s.group x := rfl
@[simp] theorem State.oweIdle_port (s : State) (n : SlotId) (x : Port) : (s.oweIdle n).port x = s.port x := rfl
@[simp] theorem State.oweIdle_notice (s : State) (n : SlotId) (x : Port) : (s.oweIdle n).notice x = s.notice x := rfl

/-! ## dropJoin -/

@[simp] theorem State.dropJoin_pending (s : State) (n : SlotId) : (s.dropJoin n).pending = s.pending := rfl
@[simp] theorem State.dropJoin_inReset (s : State) (n : SlotId) : (s.dropJoin n).inReset = s.inReset := rfl
@[simp] theorem State.dropJoin_now (s : State) (n : SlotId) : (s.dropJoin n).now = s.now := rfl
@[simp] theorem State.dropJoin_choice (s : State) (n : SlotId) : (s.dropJoin n).choice = s.choice := rfl
@[simp] theorem State.dropJoin_points (s : State) (n : SlotId) : (s.dropJoin n).points = s.points := rfl
@[simp] theorem State.dropJoin_slots (s : State) (n : SlotId) : (s.dropJoin n).slots = s.slots := rfl
@[simp] theorem State.dropJoin_bus (s : State) (n : SlotId) : (s.dropJoin n).bus = s.bus := rfl
@[simp] theorem State.dropJoin_groups (s : State) (n : SlotId) : (s.dropJoin n).groups = s.groups := rfl
@[simp] theorem State.dropJoin_stopUnit (s : State) (n : SlotId) : (s.dropJoin n).stopUnit = s.stopUnit := rfl
@[simp] theorem State.dropJoin_cue (s : State) (n : SlotId) : (s.dropJoin n).cue = s.cue := rfl
@[simp] theorem State.dropJoin_ports (s : State) (n : SlotId) : (s.dropJoin n).ports = s.ports := rfl
@[simp] theorem State.dropJoin_notices (s : State) (n : SlotId) : (s.dropJoin n).notices = s.notices := rfl
@[simp] theorem State.dropJoin_warn (s : State) (n : SlotId) : (s.dropJoin n).warn = s.warn := rfl
@[simp] theorem State.dropJoin_point (s : State) (n : SlotId) (x : PointId) : (s.dropJoin n).point x = s.point x := rfl
@[simp] theorem State.dropJoin_slot (s : State) (n : SlotId) (x : SlotId) : (s.dropJoin n).slot x = s.slot x := rfl
@[simp] theorem State.dropJoin_group (s : State) (n : SlotId) (x : GroupId) : (s.dropJoin n).group x = s.group x := rfl
@[simp] theorem State.dropJoin_port (s : State) (n : SlotId) (x : Port) : (s.dropJoin n).port x = s.port x := rfl
@[simp] theorem State.dropJoin_notice (s : State) (n : SlotId) (x : Port) : (s.dropJoin n).notice x = s.notice x := rfl

/-! ## discardJob -/

@[simp] theorem State.discardJob_pending (s : State) (p : PointId) : (s.discardJob p).pending = s.pending := rfl
@[simp] theorem State.discardJob_inReset (s : State) (p : PointId) : (s.discardJob p).inReset = s.inReset := rfl
@[simp] theorem State.discardJob_now (s : State) (p : PointId) : (s.discardJob p).now = s.now := rfl
@[simp] theorem State.discardJob_choice (s : State) (p : PointId) : (s.discardJob p).choice = s.choice := rfl
@[simp] theorem State.discardJob_points (s : State) (p : PointId) : (s.discardJob p).points = s.points := rfl
@[simp] theorem State.discardJob_slots (s : State) (p : PointId) : (s.discardJob p).slots = s.slots := rfl
@[simp] theorem State.discardJob_bus (s : State) (p : PointId) : (s.discardJob p).bus = s.bus := rfl
@[simp] theorem State.discardJob_groups (s : State) (p : PointId) : (s.discardJob p).groups = s.groups := rfl
@[simp] theorem State.discardJob_stopUnit (s : State) (p : PointId) : (s.discardJob p).stopUnit = s.stopUnit := rfl
@[simp] theorem State.discardJob_cue (s : State) (p : PointId) : (s.discardJob p).cue = s.cue := rfl
@[simp] theorem State.discardJob_ports (s : State) (p : PointId) : (s.discardJob p).ports = s.ports := rfl
@[simp] theorem State.discardJob_notices (s : State) (p : PointId) : (s.discardJob p).notices = s.notices := rfl
@[simp] theorem State.discardJob_warn (s : State) (p : PointId) : (s.discardJob p).warn = s.warn := rfl
@[simp] theorem State.discardJob_point (s : State) (p : PointId) (x : PointId) : (s.discardJob p).point x = s.point x := rfl
@[simp] theorem State.discardJob_slot (s : State) (p : PointId) (x : SlotId) : (s.discardJob p).slot x = s.slot x := rfl
@[simp] theorem State.discardJob_group (s : State) (p : PointId) (x : GroupId) : (s.discardJob p).group x = s.group x := rfl
@[simp] theorem State.discardJob_port (s : State) (p : PointId) (x : Port) : (s.discardJob p).port x = s.port x := rfl
@[simp] theorem State.discardJob_notice (s : State) (p : PointId) (x : Port) : (s.discardJob p).notice x = s.notice x := rfl

/-! ## notify -/

@[simp] theorem State.notify_pending (s : State) (q : Port) (k : NoticeKind) (u : Subject) : (s.notify q k u).pending = s.pending := rfl
@[simp] theorem State.notify_inReset (s : State) (q : Port) (k : NoticeKind) (u : Subject) : (s.notify q k u).inReset = s.inReset := rfl
@[simp] theorem State.notify_now (s : State) (q : Port) (k : NoticeKind) (u : Subject) : (s.notify q k u).now = s.now := rfl
@[simp] theorem State.notify_choice (s : State) (q : Port) (k : NoticeKind) (u : Subject) : (s.notify q k u).choice = s.choice := rfl
@[simp] theorem State.notify_points (s : State) (q : Port) (k : NoticeKind) (u : Subject) : (s.notify q k u).points = s.points := rfl
@[simp] theorem State.notify_slots (s : State) (q : Port) (k : NoticeKind) (u : Subject) : (s.notify q k u).slots = s.slots := rfl
@[simp] theorem State.notify_bus (s : State) (q : Port) (k : NoticeKind) (u : Subject) : (s.notify q k u).bus = s.bus := rfl
@[simp] theorem State.notify_service (s : State) (q : Port) (k : NoticeKind) (u : Subject) : (s.notify q k u).service = s.service := rfl
@[simp] theorem State.notify_groups (s : State) (q : Port) (k : NoticeKind) (u : Subject) : (s.notify q k u).groups = s.groups := rfl
@[simp] theorem State.notify_stopUnit (s : State) (q : Port) (k : NoticeKind) (u : Subject) : (s.notify q k u).stopUnit = s.stopUnit := rfl
@[simp] theorem State.notify_cue (s : State) (q : Port) (k : NoticeKind) (u : Subject) : (s.notify q k u).cue = s.cue := rfl
@[simp] theorem State.notify_ports (s : State) (q : Port) (k : NoticeKind) (u : Subject) : (s.notify q k u).ports = s.ports := rfl
@[simp] theorem State.notify_warn (s : State) (q : Port) (k : NoticeKind) (u : Subject) : (s.notify q k u).warn = s.warn := rfl
@[simp] theorem State.notify_point (s : State) (q : Port) (k : NoticeKind) (u : Subject) (x : PointId) : (s.notify q k u).point x = s.point x := rfl
@[simp] theorem State.notify_slot (s : State) (q : Port) (k : NoticeKind) (u : Subject) (x : SlotId) : (s.notify q k u).slot x = s.slot x := rfl
@[simp] theorem State.notify_group (s : State) (q : Port) (k : NoticeKind) (u : Subject) (x : GroupId) : (s.notify q k u).group x = s.group x := rfl
@[simp] theorem State.notify_port (s : State) (q : Port) (k : NoticeKind) (u : Subject) (x : Port) : (s.notify q k u).port x = s.port x := rfl

/-! ## notifyAll -/

@[simp] theorem State.notifyAll_pending (s : State) (k : NoticeKind) (u : Subject) : (s.notifyAll k u).pending = s.pending := rfl
@[simp] theorem State.notifyAll_inReset (s : State) (k : NoticeKind) (u : Subject) : (s.notifyAll k u).inReset = s.inReset := rfl
@[simp] theorem State.notifyAll_now (s : State) (k : NoticeKind) (u : Subject) : (s.notifyAll k u).now = s.now := rfl
@[simp] theorem State.notifyAll_choice (s : State) (k : NoticeKind) (u : Subject) : (s.notifyAll k u).choice = s.choice := rfl
@[simp] theorem State.notifyAll_points (s : State) (k : NoticeKind) (u : Subject) : (s.notifyAll k u).points = s.points := rfl
@[simp] theorem State.notifyAll_slots (s : State) (k : NoticeKind) (u : Subject) : (s.notifyAll k u).slots = s.slots := rfl
@[simp] theorem State.notifyAll_bus (s : State) (k : NoticeKind) (u : Subject) : (s.notifyAll k u).bus = s.bus := rfl
@[simp] theorem State.notifyAll_service (s : State) (k : NoticeKind) (u : Subject) : (s.notifyAll k u).service = s.service := rfl
@[simp] theorem State.notifyAll_groups (s : State) (k : NoticeKind) (u : Subject) : (s.notifyAll k u).groups = s.groups := rfl
@[simp] theorem State.notifyAll_stopUnit (s : State) (k : NoticeKind) (u : Subject) : (s.notifyAll k u).stopUnit = s.stopUnit := rfl
@[simp] theorem State.notifyAll_cue (s : State) (k : NoticeKind) (u : Subject) : (s.notifyAll k u).cue = s.cue := rfl
@[simp] theorem State.notifyAll_ports (s : State) (k : NoticeKind) (u : Subject) : (s.notifyAll k u).ports = s.ports := rfl
@[simp] theorem State.notifyAll_warn (s : State) (k : NoticeKind) (u : Subject) : (s.notifyAll k u).warn = s.warn := rfl
@[simp] theorem State.notifyAll_point (s : State) (k : NoticeKind) (u : Subject) (x : PointId) : (s.notifyAll k u).point x = s.point x := rfl
@[simp] theorem State.notifyAll_slot (s : State) (k : NoticeKind) (u : Subject) (x : SlotId) : (s.notifyAll k u).slot x = s.slot x := rfl
@[simp] theorem State.notifyAll_group (s : State) (k : NoticeKind) (u : Subject) (x : GroupId) : (s.notifyAll k u).group x = s.group x := rfl
@[simp] theorem State.notifyAll_port (s : State) (k : NoticeKind) (u : Subject) (x : Port) : (s.notifyAll k u).port x = s.port x := rfl

/-! ## queueTx -/

@[simp] theorem State.queueTx_pending (s : State) (q : Port) (f : TxFrame) : (s.queueTx q f).pending = s.pending := rfl
@[simp] theorem State.queueTx_inReset (s : State) (q : Port) (f : TxFrame) : (s.queueTx q f).inReset = s.inReset := rfl
@[simp] theorem State.queueTx_now (s : State) (q : Port) (f : TxFrame) : (s.queueTx q f).now = s.now := rfl
@[simp] theorem State.queueTx_choice (s : State) (q : Port) (f : TxFrame) : (s.queueTx q f).choice = s.choice := rfl
@[simp] theorem State.queueTx_points (s : State) (q : Port) (f : TxFrame) : (s.queueTx q f).points = s.points := rfl
@[simp] theorem State.queueTx_slots (s : State) (q : Port) (f : TxFrame) : (s.queueTx q f).slots = s.slots := rfl
@[simp] theorem State.queueTx_bus (s : State) (q : Port) (f : TxFrame) : (s.queueTx q f).bus = s.bus := rfl
@[simp] theorem State.queueTx_service (s : State) (q : Port) (f : TxFrame) : (s.queueTx q f).service = s.service := rfl
@[simp] theorem State.queueTx_groups (s : State) (q : Port) (f : TxFrame) : (s.queueTx q f).groups = s.groups := rfl
@[simp] theorem State.queueTx_stopUnit (s : State) (q : Port) (f : TxFrame) : (s.queueTx q f).stopUnit = s.stopUnit := rfl
@[simp] theorem State.queueTx_cue (s : State) (q : Port) (f : TxFrame) : (s.queueTx q f).cue = s.cue := rfl
@[simp] theorem State.queueTx_notices (s : State) (q : Port) (f : TxFrame) : (s.queueTx q f).notices = s.notices := rfl
@[simp] theorem State.queueTx_warn (s : State) (q : Port) (f : TxFrame) : (s.queueTx q f).warn = s.warn := rfl
@[simp] theorem State.queueTx_point (s : State) (q : Port) (f : TxFrame) (x : PointId) : (s.queueTx q f).point x = s.point x := rfl
@[simp] theorem State.queueTx_slot (s : State) (q : Port) (f : TxFrame) (x : SlotId) : (s.queueTx q f).slot x = s.slot x := rfl
@[simp] theorem State.queueTx_group (s : State) (q : Port) (f : TxFrame) (x : GroupId) : (s.queueTx q f).group x = s.group x := rfl
@[simp] theorem State.queueTx_notice (s : State) (q : Port) (f : TxFrame) (x : Port) : (s.queueTx q f).notice x = s.notice x := rfl

/-! ## What each table update sets -/

@[simp] theorem State.setPoint_point (s : State) (p : PointId) (r : PointRec) (x : PointId) :
    (s.setPoint p r).point x = if x = p then r else s.point x := by
  simp only [State.setPoint, State.point, Fin.getElem_fin, Vector.getElem_set, Fin.ext_iff, eq_comm]

@[simp] theorem State.setSlot_slot (s : State) (n : SlotId) (r : SlotRec) (x : SlotId) :
    (s.setSlot n r).slot x = if x = n then r else s.slot x := by
  simp only [State.setSlot, State.slot, Fin.getElem_fin, Vector.getElem_set, Fin.ext_iff, eq_comm]

@[simp] theorem State.setGroup_group (s : State) (g : GroupId) (r : GroupRec) (x : GroupId) :
    (s.setGroup g r).group x = if x = g then r else s.group x := by
  simp only [State.setGroup, State.group, Fin.getElem_fin, Vector.getElem_set, Fin.ext_iff, eq_comm]

@[simp] theorem State.setPort_port (s : State) (q : Port) (r : PortRec) (x : Port) :
    (s.setPort q r).port x = if x = q then r else s.port x := by simp [State.setPort, State.port]

@[simp] theorem State.setNotice_notice (s : State) (q : Port) (n : NoticeSet) (x : Port) :
    (s.setNotice q n).notice x = if x = q then n else s.notice x := by simp [State.setNotice, State.notice]

@[simp] theorem State.setLoad_point (s : State) (p : PointId) (l : LoadPart) (x : PointId) :
    (s.setLoad p l).point x = if x = p then { s.point p with load := l } else s.point x := by simp [State.setLoad]

@[simp] theorem State.setStop_point (s : State) (p : PointId) (t : StopPart) (x : PointId) :
    (s.setStop p t).point x = if x = p then { s.point p with stop := t } else s.point x := by simp [State.setStop]

@[simp] theorem State.oweIdle_slot (s : State) (n x : SlotId) :
    (s.oweIdle n).slot x = if x = n then { s.slot n with idleOwed := 2 } else s.slot x := by simp [State.oweIdle]

@[simp] theorem State.notify_notice (s : State) (q : Port) (k : NoticeKind) (u : Subject) (x : Port) :
    (s.notify q k u).notice x = if x = q then (s.notice q).record k u else s.notice x := by simp [State.notify]

@[simp] theorem State.notifyAll_notice (s : State) (k : NoticeKind) (u : Subject) (x : Port) :
    (s.notifyAll k u).notice x = (s.notice x).record k u := by cases x <;> rfl

@[simp] theorem State.queueTx_port (s : State) (q : Port) (f : TxFrame) (x : Port) :
    (s.queueTx q f).port x = if x = q then { s.port q with tx := (s.port q).tx ++ [f] } else s.port x := by
  simp [State.queueTx]

@[simp] theorem State.discardJob_service (s : State) (p : PointId) :
    (s.discardJob p).service = { s.service with
      active := s.service.active.map fun j => if j.point = some p then { j with discard := true } else j } := rfl
@[simp] theorem State.dropJoin_service (s : State) (n : SlotId) :
    (s.dropJoin n).service = { s.service with joinList := s.service.joinList.filter fun e => !(e.slot == n) } := rfl

/-! ## Equal states -/

theorem State.points_ext {s t : State} (h : ∀ p, s.point p = t.point p) : s.points = t.points :=
  Vector.ext fun i hi => h ⟨i, hi⟩

theorem State.slots_ext {s t : State} (h : ∀ n, s.slot n = t.slot n) : s.slots = t.slots :=
  Vector.ext fun i hi => h ⟨i, hi⟩

theorem State.groups_ext {s t : State} (h : ∀ g, s.group g = t.group g) : s.groups = t.groups :=
  Vector.ext fun i hi => h ⟨i, hi⟩

theorem State.ports_ext {s t : State} (h : ∀ q, s.port q = t.port q) : s.ports = t.ports := PerPort.ext_get h

theorem State.notices_ext {s t : State} (h : ∀ q, s.notice q = t.notice q) : s.notices = t.notices := PerPort.ext_get h

/-- Two states are equal when every register of theirs is. -/
theorem State.ext_parts {s t : State} (pending : s.pending = t.pending) (inReset : s.inReset = t.inReset)
    (now : s.now = t.now) (choice : s.choice = t.choice) (points : ∀ p, s.point p = t.point p)
    (slots : ∀ n, s.slot n = t.slot n) (bus : s.bus = t.bus) (service : s.service = t.service)
    (groups : ∀ g, s.group g = t.group g) (stopUnit : s.stopUnit = t.stopUnit) (cue : s.cue = t.cue)
    (ports : ∀ q, s.port q = t.port q) (notices : ∀ q, s.notice q = t.notice q) (warn : s.warn = t.warn) : s = t := by
  have hp := State.points_ext points
  have hs := State.slots_ext slots
  have hg := State.groups_ext groups
  have ho := State.ports_ext ports
  have hn := State.notices_ext notices
  cases s; cases t; simp_all

@[simp] theorem State.setPoint_self (s : State) (p : PointId) : s.setPoint p (s.point p) = s := by
  simp [State.setPoint, State.point]

@[simp] theorem State.setSlot_self (s : State) (n : SlotId) : s.setSlot n (s.slot n) = s := by
  simp [State.setSlot, State.slot]

@[simp] theorem State.setGroup_self (s : State) (g : GroupId) : s.setGroup g (s.group g) = s := by
  simp [State.setGroup, State.group]

@[simp] theorem State.setPort_self (s : State) (q : Port) : s.setPort q (s.port q) = s := by
  simp [State.setPort, State.port]

@[simp] theorem State.setNotice_self (s : State) (q : Port) : s.setNotice q (s.notice q) = s := by
  simp [State.setNotice, State.notice]

@[simp] theorem State.setPoint_setPoint (s : State) (p : PointId) (r r' : PointRec) :
    (s.setPoint p r).setPoint p r' = s.setPoint p r' := by simp [State.setPoint, Vector.set_set]

@[simp] theorem State.setSlot_setSlot (s : State) (n : SlotId) (r r' : SlotRec) :
    (s.setSlot n r).setSlot n r' = s.setSlot n r' := by simp [State.setSlot, Vector.set_set]

@[simp] theorem State.setGroup_setGroup (s : State) (g : GroupId) (r r' : GroupRec) :
    (s.setGroup g r).setGroup g r' = s.setGroup g r' := by simp [State.setGroup, Vector.set_set]

@[simp] theorem State.setPort_setPort (s : State) (q : Port) (r r' : PortRec) :
    (s.setPort q r).setPort q r' = s.setPort q r' := by simp [State.setPort]

@[simp] theorem State.setNotice_setNotice (s : State) (q : Port) (n n' : NoticeSet) :
    (s.setNotice q n).setNotice q n' = s.setNotice q n' := by simp [State.setNotice]

end Sys2Proof.Machine
end

