-- ==== Sys2Proof/Laws/Rig.lean ====
section
/-! SUPPORT. What the shared operations over groups, points and cues can change: each leaves everything outside the groups,
notices and cues alone, or everything outside those, the points and the Stop Unit. -/

namespace Sys2Proof.Machine

/-! ## Two frames -/

/-- t differs from s in the groups, the notices and the cues at most. -/
def State.MovesTo (s t : State) : Prop := t = { s with groups := t.groups, notices := t.notices, cue := t.cue }

/-- t differs from s in the points, the groups, the Stop Unit, the notices and the cues at most. -/
def State.RunsTo (s t : State) : Prop :=
  t = { s with points := t.points, groups := t.groups, stopUnit := t.stopUnit, notices := t.notices, cue := t.cue }

theorem State.MovesTo.refl (s : State) : s.MovesTo s := rfl

theorem State.RunsTo.refl (s : State) : s.RunsTo s := rfl

theorem State.MovesTo.trans {s t u : State} (h : s.MovesTo t) (h' : t.MovesTo u) : s.MovesTo u := by
  unfold State.MovesTo at *; rw [h', h]

theorem State.RunsTo.trans {s t u : State} (h : s.RunsTo t) (h' : t.RunsTo u) : s.RunsTo u := by
  unfold State.RunsTo at *; rw [h', h]

theorem State.MovesTo.runs {s t : State} (h : s.MovesTo t) : s.RunsTo t := by
  unfold State.MovesTo State.RunsTo at *; rw [h]

theorem State.MovesTo.points {s t : State} (h : s.MovesTo t) : t.points = s.points := by rw [h]

theorem State.MovesTo.stopUnit {s t : State} (h : s.MovesTo t) : t.stopUnit = s.stopUnit := by rw [h]

theorem State.RunsTo.pending {s t : State} (h : s.RunsTo t) : t.pending = s.pending := by rw [h]

theorem State.RunsTo.inReset {s t : State} (h : s.RunsTo t) : t.inReset = s.inReset := by rw [h]

theorem State.RunsTo.now {s t : State} (h : s.RunsTo t) : t.now = s.now := by rw [h]

theorem State.RunsTo.choice {s t : State} (h : s.RunsTo t) : t.choice = s.choice := by rw [h]

theorem State.RunsTo.slots {s t : State} (h : s.RunsTo t) : t.slots = s.slots := by rw [h]

theorem State.RunsTo.bus {s t : State} (h : s.RunsTo t) : t.bus = s.bus := by rw [h]

theorem State.RunsTo.service {s t : State} (h : s.RunsTo t) : t.service = s.service := by rw [h]

theorem State.RunsTo.ports {s t : State} (h : s.RunsTo t) : t.ports = s.ports := by rw [h]

theorem State.RunsTo.warn {s t : State} (h : s.RunsTo t) : t.warn = s.warn := by rw [h]

/-- A property that every step of a fold keeps holds at its end. -/
theorem State.fold_keeps {α : Type} (P : State → Prop) (f : State → α → State) (h : ∀ t a, P t → P (f t a)) :
    ∀ (l : List α) (s : State), P s → P (l.foldl f s)
  | [], _, h0 => h0
  | _ :: l, _, h0 => State.fold_keeps P f h l _ (h _ _ h0)

/-! ## Groups in motion -/

theorem GroupState.active_iff (r : GroupState) : r.active = true ↔ r = .moving ∨ r = .stopping := by
  cases r <;> simp [GroupState.active]

theorem State.pointActive_iff (s : State) (p : PointId) : s.pointActive p = true ↔
    ∃ g, (s.point p).group = some g ∧ ((s.group g).state = .moving ∨ (s.group g).state = .stopping) := by
  simp only [State.pointActive]; split <;> simp_all [GroupState.active_iff]

/-! ## Notices for one port -/

theorem State.notifyOpt_moves (s : State) (o : Option Port) (k : NoticeKind) (u : Subject) :
    s.MovesTo (s.notifyOpt o k u) := by cases o <;> rfl

@[simp] theorem State.notifyOpt_group (s : State) (o : Option Port) (k : NoticeKind) (u : Subject) (g : GroupId) :
    (s.notifyOpt o k u).group g = s.group g := by cases o <;> rfl

@[simp] theorem State.notifyOpt_cue (s : State) (o : Option Port) (k : NoticeKind) (u : Subject) :
    (s.notifyOpt o k u).cue = s.cue := by cases o <;> rfl

@[simp] theorem State.notifyHolder_group (s : State) (g : GroupId) (k : NoticeKind) (u : Subject) (x : GroupId) :
    (s.notifyHolder g k u).group x = s.group x := State.notifyOpt_group ..

@[simp] theorem State.notifyOwner_group (s : State) (k : NoticeKind) (u : Subject) (x : GroupId) :
    (s.notifyOwner k u).group x = s.group x := State.notifyOpt_group ..

theorem State.notifyHolder_moves (s : State) (g : GroupId) (k : NoticeKind) (u : Subject) :
    s.MovesTo (s.notifyHolder g k u) := State.notifyOpt_moves ..

theorem State.notifyOwner_moves (s : State) (k : NoticeKind) (u : Subject) : s.MovesTo (s.notifyOwner k u) :=
  State.notifyOpt_moves ..

/-! ## Faults and stops -/

theorem State.cueFailed_moves (s : State) (g : GroupId) (w : Stall) : s.MovesTo (s.cueFailed g w) := by
  unfold State.cueFailed; split_ifs
  · exact .trans (t := s.setCue _) rfl (State.notifyOwner_moves ..)
  · rfl

@[simp] theorem State.cueFailed_group (s : State) (g : GroupId) (w : Stall) (x : GroupId) :
    (s.cueFailed g w).group x = s.group x := by
  unfold State.cueFailed; split_ifs <;> simp

theorem State.faultGroup_moves (s : State) (g : GroupId) (k : FaultKind) (p : Option PointId) :
    s.MovesTo (s.faultGroup g k p) := by
  simp only [State.faultGroup]; split_ifs
  · exact .trans (t := (s.setGroup g _).notifyAll .groupFault (.group g)) rfl (State.cueFailed_moves ..)
  · rfl
  · rfl

/-- The group records a fault request leaves. -/
theorem State.faultGroup_group (s : State) (g : GroupId) (k : FaultKind) (p : Option PointId) (x : GroupId) :
    (s.faultGroup g k p).group x = if x = g ∧ (s.group g).state.active then
      { (s.group g).updAll Member.halted with state := .fault, fault := some ⟨k, p⟩ } else s.group x := by
  simp only [State.faultGroup]
  by_cases h : (s.group g).state.active
  · simp only [h, if_true]; split_ifs <;> simp_all
  · simp [h]

theorem State.faultPoint_moves (s : State) (p : PointId) (k : FaultKind) : s.MovesTo (s.faultPoint p k) := by
  unfold State.faultPoint; split
  · exact State.faultGroup_moves ..
  · rfl

theorem State.endStopping_moves (s : State) (g : GroupId) : s.MovesTo (s.endStopping g) := by
  simp only [State.endStopping]; split_ifs
  · exact .trans (t := s.setGroup g _) rfl (.trans (State.notifyHolder_moves ..) (State.cueFailed_moves ..))
  · exact .trans (t := s.setGroup g _) rfl (State.notifyHolder_moves ..)
  · rfl

/-- The group records the end of STOPPING leaves. -/
theorem State.endStopping_group (s : State) (g x : GroupId) : (s.endStopping g).group x =
    if x = g ∧ (s.group g).state = .stopping ∧ (s.group g).members.all s.memberStopped = true then
      { (s.group g).updAll Member.rested with state := .idle } else s.group x := by
  simp only [State.endStopping]
  by_cases h : (s.group g).state = .stopping ∧ (s.group g).members.all s.memberStopped = true
  · simp only [h]; split_ifs <;> simp_all
  · rw [if_neg h, if_neg (fun h' => h h'.2)]

theorem State.stopGroup_moves (s : State) (g : GroupId) (c : StopCause) : s.MovesTo (s.stopGroup g c) := by
  simp only [State.stopGroup]; split_ifs
  · exact .trans (t := s.setGroup g _) rfl (State.endStopping_moves ..)
  · rfl

/-- A stop request touches no other group's record. -/
theorem State.stopGroup_other (s : State) {g x : GroupId} (h : x ≠ g) (c : StopCause) :
    (s.stopGroup g c).group x = s.group x := by
  simp only [State.stopGroup]; split_ifs
  · rw [State.endStopping_group, if_neg (fun h' => h h'.1)]; simp [h]
  · rfl

theorem State.stopHeld_moves (s : State) (q : Port) (c : StopCause) : s.MovesTo (s.stopHeld q c) :=
  State.fold_keeps s.MovesTo _ (fun t g h => by
    split_ifs
    · exact h.trans (State.stopGroup_moves ..)
    · exact h) _ _ rfl

theorem State.stopAll_moves (s : State) (c : StopCause) : s.MovesTo (s.stopAll c) :=
  State.fold_keeps s.MovesTo _ (fun _ _ h => h.trans (State.stopGroup_moves ..)) _ _ rfl

theorem State.tripMains_runs (s : State) (c : TripCause) : s.RunsTo (s.tripMains c) := by
  simp only [State.tripMains]; split_ifs
  · exact State.fold_keeps s.RunsTo _ (fun _ _ h => h.trans (State.faultGroup_moves ..).runs) _ _ rfl
  · rfl

theorem State.runaway_runs (s : State) (p : PointId) : s.RunsTo (s.runaway p) := by
  unfold State.runaway; split_ifs
  · rfl
  · exact .trans (t := (s.setStop p _).notifyAll .runaway (.point p)) rfl (State.tripMains_runs ..)

/-! ## Starts and cues -/

theorem State.start_moves (s : State) (q : Option Port) (o : MoveOrigin) (g : GroupId) (m : Move) :
    s.MovesTo (s.start q o g m).1 := by
  have h : ∀ (b : Bool) (x : Int), s.MovesTo (if x = s.travel g m then s else s.notifyHolder g .targetClamped (.group g)) := by
    intro _ x; split_ifs
    · rfl
    · exact State.notifyHolder_moves ..
  unfold State.start; split
  · rfl
  · split
    · split
      · exact State.notifyHolder_moves ..
      · rfl
    · simp only; split
      · exact (h true _).trans rfl
      · exact (h true _).trans (State.notifyHolder_moves ..)

theorem State.cueReadyOrEnd_moves (s : State) : s.MovesTo s.cueReadyOrEnd := by
  unfold State.cueReadyOrEnd; split_ifs
  · rfl
  · exact .trans (t := s.setCue _) rfl (State.notifyOwner_moves ..)

theorem State.fireEntry_moves (s : State) : s.MovesTo s.fireEntry.1 := by
  unfold State.fireEntry; split
  · rfl
  · rename_i e _
    simp only; split
    · refine State.MovesTo.trans ?_ (State.cueReadyOrEnd_moves _)
      refine State.MovesTo.trans ?_ (State.notifyOwner_moves _ _ _)
      exact (State.stopGroup_moves s e.group .cue).trans rfl
    · rename_i m _
      have hs := State.start_moves s s.cue.owner .cue e.group m
      split
      · exact .trans (t := s.setCue _) rfl (State.notifyOwner_moves ..)
      · rename_i s1 h; rw [h] at hs
        exact hs.trans (.trans (t := s1.setCue _) rfl (State.notifyOwner_moves ..))
      · rename_i s1 h; rw [h] at hs
        exact hs.trans (.trans (t := s1.setCue _) rfl (State.notifyOwner_moves ..))

theorem State.cueChain_moves : ∀ (n : Nat) (s : State), s.MovesTo (State.cueChain n s)
  | 0, s => .trans (t := s.setCue _) rfl (State.cueReadyOrEnd_moves ..)
  | n + 1, s => by
    have hf := State.fireEntry_moves (s.setCue { s.cue with firedGroup := none })
    simp only [State.cueChain]; split_ifs
    · refine .trans (t := s.setCue { s.cue with firedGroup := none }) rfl ?_
      split <;> rename_i s2 h <;> rw [h] at hf
      · exact hf.trans (State.cueChain_moves n s2)
      · exact hf
      · exact hf
    · exact .trans (t := s.setCue _) rfl (State.cueReadyOrEnd_moves ..)

theorem State.cueCompleted_moves (s : State) (g : GroupId) : s.MovesTo (s.cueCompleted g) := by
  unfold State.cueCompleted; split_ifs
  · exact State.cueChain_moves ..
  · rfl

theorem State.fire_moves (s : State) : s.MovesTo s.fire.1 := by
  have hf := State.fireEntry_moves s
  unfold State.fire; split <;> rename_i s1 h <;> rw [h] at hf
  · exact hf.trans (State.cueChain_moves ..)
  · exact hf
  · exact hf

/-! ## Position reports, shares and motion checks -/

theorem State.complete_moves (s : State) (g : GroupId) : s.MovesTo (s.complete g) := by
  simp only [State.complete]; split_ifs
  · exact .trans (t := s.setGroup g _) rfl (.trans (State.notifyHolder_moves ..) (State.cueCompleted_moves ..))
  · exact .trans (t := s.setGroup g _) rfl (State.notifyHolder_moves ..)
  · rfl

theorem State.learn_runs (s : State) (d : Dir) (m : Member) : s.RunsTo (s.learn d m) := by
  unfold State.learn; split <;> rfl

theorem State.memberDone_runs (s : State) (g : GroupId) (m : Member) : s.RunsTo (s.memberDone g m) := by
  simp only [State.memberDone]
  refine State.RunsTo.trans ?_ (State.complete_moves _ _).runs
  have h := State.RunsTo.trans (s := s) (t := s.setGroup g _) rfl
    (State.learn_runs (s.setGroup g ((s.group g).updMember m.point fun x => { x with state := .done })) (s.group g).dir m)
  split_ifs
  · exact h.trans (State.notifyHolder_moves ..).runs
  · exact h

theorem State.checkArrival_runs (s : State) (g : GroupId) (m : Member) : s.RunsTo (s.checkArrival g m) := by
  simp only [State.checkArrival]; split_ifs
  · exact .trans (t := s.setGroup g _) rfl (State.memberDone_runs ..)
  · rfl
  · rfl

theorem State.checkJogLimit_moves (s : State) (g : GroupId) (m : Member) : s.MovesTo (s.checkJogLimit g m) := by
  unfold State.checkJogLimit; split_ifs
  · exact .trans (State.stopGroup_moves ..) (State.notifyHolder_moves ..)
  · rfl

theorem State.checkReporter_runs (s : State) (g : GroupId) (p : PointId) : s.RunsTo (s.checkReporter g p) := by
  unfold State.checkReporter; split
  · split_ifs
    · split
      · exact State.checkArrival_runs ..
      · exact (State.checkJogLimit_moves ..).runs
    · rfl
  · rfl

theorem State.positionReport_runs (s : State) (p : PointId) : s.RunsTo (s.positionReport p) := by
  unfold State.positionReport; split
  · rfl
  · split_ifs
    · split
      · exact (State.faultGroup_moves ..).runs
      · exact .trans (t := s.levelMembers _) rfl (State.checkReporter_runs ..)
    · rfl

theorem State.shareArrival_moves (s : State) (p : PointId) : s.MovesTo (s.shareArrival p) := by
  unfold State.shareArrival; split
  · rfl
  · split
    · rfl
    · rename_i g _ _ m _
      simp only; split_ifs
      · exact .trans (t := s.setGroup g _) rfl (State.faultGroup_moves ..)
      · rfl
      · rfl

theorem State.runTimerExpiry_moves (s : State) (p : PointId) : s.MovesTo (s.runTimerExpiry p) := by
  unfold State.runTimerExpiry; split
  · rfl
  · split
    · rfl
    · rename_i g _ _ m _
      split_ifs
      · rfl
      · exact .trans (t := s.setGroup g _) rfl (State.faultGroup_moves ..)
      · rfl

theorem State.senseChange_runs (s : State) (p : PointId) (v : Sense) : s.RunsTo (s.senseChange p v) := by
  unfold State.senseChange; split
  · rfl
  · split
    · rfl
    · split <;> (try split_ifs) <;> first
        | rfl
        | exact (State.faultGroup_moves ..).runs
        | exact State.memberDone_runs ..
        | exact (State.endStopping_moves ..).runs

/-! ## Load arrivals -/

theorem State.evaluateOverload_runs (s : State) (p : PointId) : s.RunsTo (s.evaluateOverload p) := by
  simp only [State.evaluateOverload]; split
  · rfl
  · rfl
  · exact .trans (t := (s.setLoad p _).notifyAll .overload (.point p)) rfl (State.faultPoint_moves ..).runs

theorem State.underloadFault_moves (s : State) (p : PointId) : s.MovesTo (s.underloadFault p) := by
  unfold State.underloadFault; split
  · split_ifs
    · exact State.faultGroup_moves ..
    · rfl
  · rfl

theorem State.evaluateUnderload_runs (s : State) (p : PointId) : s.RunsTo (s.evaluateUnderload p) := by
  simp only [State.evaluateUnderload]; split
  · rfl
  · rfl
  · exact .trans (t := (s.setLoad p _).notifyAll .underload (.point p)) rfl (State.underloadFault_moves ..).runs

theorem State.evaluateLoads_runs (s : State) (p : PointId) : s.RunsTo (s.evaluateLoads p) := by
  unfold State.evaluateLoads; split_ifs
  · rfl
  · exact (State.evaluateOverload_runs ..).trans (State.evaluateUnderload_runs ..)

theorem State.evaluateDuty_runs (s : State) (p : PointId) : s.RunsTo (s.evaluateDuty p) := by
  simp only [State.evaluateDuty]; split_ifs <;> rfl

theorem State.loadArrival_runs (s : State) (n : SlotId) (p : PointId) (r : Code) : s.RunsTo (s.loadArrival n p r) := by
  simp only [State.loadArrival]
  refine State.RunsTo.trans ?_ (State.shareArrival_moves _ _).runs
  refine State.RunsTo.trans ?_ (State.evaluateLoads_runs _ _)
  exact State.RunsTo.trans (t := s.setLoad p _) rfl ((State.evaluateDuty_runs _ _).trans rfl)

end Sys2Proof.Machine
end

