-- ==== Sys2Proof/Laws/Jobs.lean ====
section
/-! SUPPORT. What the Service Engine's operations can change, and what starting a job leaves alone. -/

namespace Sys2Proof.Machine

/-- t differs from s in the Service Engine and the notices at most. -/
def State.ServesTo (s t : State) : Prop := t = { s with service := t.service, notices := t.notices }

/-- t differs from s in the points, the slots, the Service Engine and the notices at most. -/
def State.BindsTo (s t : State) : Prop :=
  t = { s with points := t.points, slots := t.slots, service := t.service, notices := t.notices }

theorem State.ServesTo.trans {s t u : State} (h : s.ServesTo t) (h' : t.ServesTo u) : s.ServesTo u := by
  unfold State.ServesTo at *; rw [h', h]

theorem State.BindsTo.trans {s t u : State} (h : s.BindsTo t) (h' : t.BindsTo u) : s.BindsTo u := by
  unfold State.BindsTo at *; rw [h', h]

theorem State.ServesTo.binds {s t : State} (h : s.ServesTo t) : s.BindsTo t := by
  unfold State.ServesTo State.BindsTo at *; rw [h]

theorem State.ServesTo.points {s t : State} (h : s.ServesTo t) : t.points = s.points := by rw [h]

theorem State.ServesTo.slots {s t : State} (h : s.ServesTo t) : t.slots = s.slots := by rw [h]

theorem State.BindsTo.pending {s t : State} (h : s.BindsTo t) : t.pending = s.pending := by rw [h]

theorem State.BindsTo.inReset {s t : State} (h : s.BindsTo t) : t.inReset = s.inReset := by rw [h]

theorem State.BindsTo.now {s t : State} (h : s.BindsTo t) : t.now = s.now := by rw [h]

theorem State.BindsTo.choice {s t : State} (h : s.BindsTo t) : t.choice = s.choice := by rw [h]

theorem State.BindsTo.bus {s t : State} (h : s.BindsTo t) : t.bus = s.bus := by rw [h]

theorem State.BindsTo.groups {s t : State} (h : s.BindsTo t) : t.groups = s.groups := by rw [h]

theorem State.BindsTo.stopUnit {s t : State} (h : s.BindsTo t) : t.stopUnit = s.stopUnit := by rw [h]

theorem State.BindsTo.cue {s t : State} (h : s.BindsTo t) : t.cue = s.cue := by rw [h]

theorem State.BindsTo.ports {s t : State} (h : s.BindsTo t) : t.ports = s.ports := by rw [h]

theorem State.BindsTo.warn {s t : State} (h : s.BindsTo t) : t.warn = s.warn := by rw [h]

/-! ## Starting a job -/

theorem State.startPortJob_serves : ∀ (l : List PortEntry) (s : State), s.ServesTo (s.startPortJob l)
  | [], _ => rfl
  | e :: rest, s => by
    unfold State.startPortJob; split_ifs
    · rfl
    · exact State.ServesTo.trans (t := s.notify _ _ _) rfl (State.startPortJob_serves rest _)

theorem State.startJob_serves (s : State) : s.ServesTo s.startJob := by
  unfold State.startJob; split
  · rfl
  · rfl
  · exact State.startPortJob_serves ..

/-- With a job active nothing starts. -/
theorem State.startJob_busy {s : State} {j : Job} (h : s.service.active = some j) : s.startJob = s := by
  simp [State.startJob, h]

/-! ## Ending a job -/

theorem State.bind_binds (s : State) (p : PointId) (n : SlotId) : s.BindsTo (s.bind p n) := rfl

theorem State.identFailed_binds (s : State) (n : SlotId) : s.BindsTo (s.identFailed n) := by
  unfold State.identFailed; split_ifs <;> rfl

theorem State.identDone_binds (s : State) (j : Job) (x : Identity) : s.BindsTo (s.identDone j x) := by
  simp only [State.identDone]; split_ifs
  · rfl
  · rfl
  · split
    · split_ifs <;> rfl
    · rfl

theorem State.calReadDone_binds (s : State) (j : Job) (o : ServiceOutcome) : s.BindsTo (s.calReadDone j o) := by
  unfold State.calReadDone; split
  · rfl
  · split_ifs <;> rfl
  · rfl

theorem State.portJobDone_binds (s : State) (j : Job) (q : Port) (o : ServiceOutcome) :
    s.BindsTo (s.portJobDone j q o) := by
  unfold State.portJobDone; split
  · rfl
  · split_ifs <;> rfl
  · rfl

theorem State.finishJob_binds (s : State) (e : JobEnd) : s.BindsTo (s.finishJob e) := by
  unfold State.finishJob; split
  · rfl
  · rename_i j _
    have h : ∀ o : ServiceOutcome,
        s.BindsTo (if o.isOk then s.setActive none else (s.setActive none).oweIdle j.slot) := by
      intro o; split_ifs <;> rfl
    simp only; split
    · exact (h _).trans (State.portJobDone_binds ..)
    · exact (h _).trans (State.identDone_binds ..)
    · exact (h _).trans (State.identFailed_binds ..)
    · exact (h _).trans (State.calReadDone_binds ..)

theorem State.endJob_binds (s : State) (e : JobEnd) : s.BindsTo (s.endJob e) :=
  (State.finishJob_binds s e).trans (State.startJob_serves _).binds

end Sys2Proof.Machine
end

