-- ==== Sys2Proof/Laws/PerInstr.lean ====
section
/-! SUPPORT. One family of statements about every command as syntax: the frame of a well-formed request has a length that
Table 10-3 permits for its TYPE, and a TYPE whose highest bit is clear (R162, R163). -/

namespace Sys2Proof.Laws.RequestLength

open Sys2Proof Sys2Proof.Machine

/-- The TYPE and payload of a well-formed request, if the command is one: a length that its TYPE permits, and the highest
bit of the TYPE free for the response. -/
def Statement (i : Instr) : Prop :=
  i.wellFormed = true → ∀ typ payload, encodeRequest i = some (typ, payload) →
    typ.toNat < 128 ∧ ∃ lens, permittedLengths typ = some lens ∧ payload.length ∈ lens

theorem resetnAssert : Statement .resetnAssert := by
  rintro - _ _ ⟨⟩

theorem resetnRelease (estopLine : Level) (cueLine : Level) :
    Statement (.resetnRelease estopLine cueLine) := by
  rintro - _ _ ⟨⟩

theorem frame : Statement .frame := by
  rintro - _ _ ⟨⟩

theorem upstreamField (slot : SlotId) (field : Option UpField) :
    Statement (.upstreamField slot field) := by
  rintro - _ _ ⟨⟩

theorem slotJoining (slot : SlotId) :
    Statement (.slotJoining slot) := by
  rintro - _ _ ⟨⟩

theorem slotLost (slot : SlotId) :
    Statement (.slotLost slot) := by
  rintro - _ _ ⟨⟩

theorem serviceJobEnd (ending : JobEnd) :
    Statement (.serviceJobEnd ending) := by
  rintro - _ _ ⟨⟩

theorem serviceJobStart : Statement .serviceJobStart := by
  rintro - _ _ ⟨⟩

theorem serviceTimeout : Statement .serviceTimeout := by
  rintro - _ _ ⟨⟩

theorem runTimerExpiry (point : PointId) :
    Statement (.runTimerExpiry point) := by
  rintro - _ _ ⟨⟩

theorem runawayAllowanceExpiry (point : PointId) :
    Statement (.runawayAllowanceExpiry point) := by
  rintro - _ _ ⟨⟩

theorem estopAssertion : Statement .estopAssertion := by
  rintro - _ _ ⟨⟩

theorem estopRelease : Statement .estopRelease := by
  rintro - _ _ ⟨⟩

theorem cueLineChange (level : Level) :
    Statement (.cueLineChange level) := by
  rintro - _ _ ⟨⟩

theorem rearmTimerExpiry : Statement .rearmTimerExpiry := by
  rintro - _ _ ⟨⟩

theorem rxCharacter (port : Port) (char : Byte) (stopBit : Bool) :
    Statement (.rxCharacter port char stopBit) := by
  rintro - _ _ ⟨⟩

theorem gapTimerExpiry (port : Port) :
    Statement (.gapTimerExpiry port) := by
  rintro - _ _ ⟨⟩

theorem frameReceived (port : Port) (typ : Byte) (tag : Byte) (payload : List Byte) (crc : Word16) :
    Statement (.frameReceived port typ tag payload crc) := by
  rintro - _ _ ⟨⟩

theorem txFrameEnd (port : Port) :
    Statement (.txFrameEnd port) := by
  rintro - _ _ ⟨⟩

theorem linkTimerExpiry (port : Port) :
    Statement (.linkTimerExpiry port) := by
  rintro - _ _ ⟨⟩

theorem enableWindowExpiry (port : Port) :
    Statement (.enableWindowExpiry port) := by
  rintro - _ _ ⟨⟩

theorem patchPoint (port : Port) (tag : Byte) (point : Byte) (identity : Identity) (softMin : Word24) (softMax : Word24) (trim : Word16) :
    Statement (.patchPoint port tag point identity softMin softMax trim) := by
  rintro - _ _ ⟨⟩
  exact ⟨by decide, _, rfl, .head _⟩

theorem unpatch (port : Port) (tag : Byte) (point : Byte) :
    Statement (.unpatch port tag point) := by
  rintro - _ _ ⟨⟩
  exact ⟨by decide, _, rfl, .head _⟩

theorem pointRead (port : Port) (tag : Byte) (point : Byte) :
    Statement (.pointRead port tag point) := by
  rintro - _ _ ⟨⟩
  exact ⟨by decide, _, rfl, .head _⟩

theorem slotRead (port : Port) (tag : Byte) (first : Byte) (count : Byte) :
    Statement (.slotRead port tag first count) := by
  rintro - _ _ ⟨⟩
  exact ⟨by decide, _, rfl, .head _⟩

theorem busConfig (port : Port) (tag : Byte) (epoch : Byte) (mode : Byte) :
    Statement (.busConfig port tag epoch mode) := by
  rintro - _ _ ⟨⟩
  exact ⟨by decide, _, rfl, .head _⟩

theorem tare (port : Port) (tag : Byte) (point : Byte) :
    Statement (.tare port tag point) := by
  rintro - _ _ ⟨⟩
  exact ⟨by decide, _, rfl, .head _⟩

theorem calWrite (port : Port) (tag : Byte) (point : Byte) (zero : Word16) (span : Word16) (wll : Word16) :
    Statement (.calWrite port tag point zero span wll) := by
  rintro - _ _ ⟨⟩
  exact ⟨by decide, _, rfl, .head _⟩

theorem calRead (port : Port) (tag : Byte) (point : Byte) :
    Statement (.calRead port tag point) := by
  rintro - _ _ ⟨⟩
  exact ⟨by decide, _, rfl, .head _⟩

theorem clearLoadAlarm (port : Port) (tag : Byte) (point : Byte) :
    Statement (.clearLoadAlarm port tag point) := by
  rintro - _ _ ⟨⟩
  exact ⟨by decide, _, rfl, .head _⟩

theorem setLoadLimits (port : Port) (tag : Byte) (point : Byte) (high : Word16) (low : Word16) (hyst : Word16) (mode : Byte) :
    Statement (.setLoadLimits port tag point high low hyst mode) := by
  rintro - _ _ ⟨⟩
  exact ⟨by decide, _, rfl, .head _⟩

theorem setDutyLimit (port : Port) (tag : Byte) (point : Byte) (limit : Word16) :
    Statement (.setDutyLimit port tag point limit) := by
  rintro - _ _ ⟨⟩
  exact ⟨by decide, _, rfl, .head _⟩

theorem loadRead (port : Port) (tag : Byte) (point : Byte) :
    Statement (.loadRead port tag point) := by
  rintro - _ _ ⟨⟩
  exact ⟨by decide, _, rfl, .head _⟩

theorem setMembers (port : Port) (tag : Byte) (group : Byte) (points : List Byte) :
    Statement (.setMembers port tag group points) := by
  rintro h _ _ ⟨⟩
  have h : points.length ≤ 24 := of_decide_eq_true h
  refine ⟨by decide, _, rfl, ?_⟩
  simp [List.mem_range'_1]; omega

theorem claim (port : Port) (tag : Byte) (group : Byte) :
    Statement (.claim port tag group) := by
  rintro - _ _ ⟨⟩
  exact ⟨by decide, _, rfl, .head _⟩

theorem release (port : Port) (tag : Byte) (group : Byte) :
    Statement (.release port tag group) := by
  rintro - _ _ ⟨⟩
  exact ⟨by decide, _, rfl, .head _⟩

theorem takeover (port : Port) (tag : Byte) (group : Byte) :
    Statement (.takeover port tag group) := by
  rintro - _ _ ⟨⟩
  exact ⟨by decide, _, rfl, .head _⟩

theorem setBands (port : Port) (tag : Byte) (group : Byte) (pause : Word16) (resume : Word16) (trip : Word16) (share : Word16) (tolerance : Word16) :
    Statement (.setBands port tag group pause resume trip share tolerance) := by
  rintro - _ _ ⟨⟩
  exact ⟨by decide, _, rfl, .head _⟩

theorem groupRead (port : Port) (tag : Byte) (group : Byte) :
    Statement (.groupRead port tag group) := by
  rintro - _ _ ⟨⟩
  exact ⟨by decide, _, rfl, .head _⟩

theorem moveTo (port : Port) (tag : Byte) (group : Byte) (height : Word24) :
    Statement (.moveTo port tag group height) := by
  rintro - _ _ ⟨⟩
  exact ⟨by decide, _, rfl, .head _⟩

theorem moveBy (port : Port) (tag : Byte) (group : Byte) (distance : Word24) :
    Statement (.moveBy port tag group distance) := by
  rintro - _ _ ⟨⟩
  exact ⟨by decide, _, rfl, .head _⟩

theorem jog (port : Port) (tag : Byte) (group : Byte) (direction : Byte) :
    Statement (.jog port tag group direction) := by
  rintro - _ _ ⟨⟩
  exact ⟨by decide, _, rfl, .head _⟩

theorem stop (port : Port) (tag : Byte) (group : Byte) :
    Statement (.stop port tag group) := by
  rintro - _ _ ⟨⟩
  exact ⟨by decide, _, rfl, .head _⟩

theorem ackFault (port : Port) (tag : Byte) (group : Byte) :
    Statement (.ackFault port tag group) := by
  rintro - _ _ ⟨⟩
  exact ⟨by decide, _, rfl, .head _⟩

theorem setStopLead (port : Port) (tag : Byte) (point : Byte) (lead : Word16) :
    Statement (.setStopLead port tag point lead) := by
  rintro - _ _ ⟨⟩
  exact ⟨by decide, _, rfl, .head _⟩

theorem motionRead (port : Port) (tag : Byte) (group : Byte) (first : Option Byte) :
    Statement (.motionRead port tag group first) := by
  rintro - _ _ ⟨⟩
  exact ⟨by decide, _, rfl, by cases first <;> simp⟩

theorem clearStopFlags (port : Port) (tag : Byte) (point : Byte) :
    Statement (.clearStopFlags port tag point) := by
  rintro - _ _ ⟨⟩
  exact ⟨by decide, _, rfl, .head _⟩

theorem setStopConfig (port : Port) (tag : Byte) (point : Byte) (modes : Byte) (masks : Byte) :
    Statement (.setStopConfig port tag point modes masks) := by
  rintro - _ _ ⟨⟩
  exact ⟨by decide, _, rfl, .head _⟩

theorem mainsClose (port : Port) (tag : Byte) :
    Statement (.mainsClose port tag) := by
  rintro - _ _ ⟨⟩
  exact ⟨by decide, _, rfl, .head _⟩

theorem mainsOpen (port : Port) (tag : Byte) :
    Statement (.mainsOpen port tag) := by
  rintro - _ _ ⟨⟩
  exact ⟨by decide, _, rfl, .head _⟩

theorem gridHoldSet (port : Port) (tag : Byte) :
    Statement (.gridHoldSet port tag) := by
  rintro - _ _ ⟨⟩
  exact ⟨by decide, _, rfl, .head _⟩

theorem gridHoldClear (port : Port) (tag : Byte) (target : Option Byte) :
    Statement (.gridHoldClear port tag target) := by
  rintro - _ _ ⟨⟩
  exact ⟨by decide, _, rfl, by cases target <;> simp⟩

theorem stopRead (port : Port) (tag : Byte) (point : Byte) :
    Statement (.stopRead port tag point) := by
  rintro - _ _ ⟨⟩
  exact ⟨by decide, _, rfl, .head _⟩

theorem stopStatus (port : Port) (tag : Byte) :
    Statement (.stopStatus port tag) := by
  rintro - _ _ ⟨⟩
  exact ⟨by decide, _, rfl, .head _⟩

theorem cueWrite (port : Port) (tag : Byte) (index : Byte) (group : Byte) (action : Byte) (value : Word24) (follow : Byte) :
    Statement (.cueWrite port tag index group action value follow) := by
  rintro - _ _ ⟨⟩
  exact ⟨by decide, _, rfl, .head _⟩

theorem cueClear (port : Port) (tag : Byte) :
    Statement (.cueClear port tag) := by
  rintro - _ _ ⟨⟩
  exact ⟨by decide, _, rfl, .head _⟩

theorem cueOwn (port : Port) (tag : Byte) :
    Statement (.cueOwn port tag) := by
  rintro - _ _ ⟨⟩
  exact ⟨by decide, _, rfl, .head _⟩

theorem cueDisown (port : Port) (tag : Byte) :
    Statement (.cueDisown port tag) := by
  rintro - _ _ ⟨⟩
  exact ⟨by decide, _, rfl, .head _⟩

theorem cueConfig (port : Port) (tag : Byte) (source : Byte) (mode : Byte) :
    Statement (.cueConfig port tag source mode) := by
  rintro - _ _ ⟨⟩
  exact ⟨by decide, _, rfl, .head _⟩

theorem cueArm (port : Port) (tag : Byte) (start : Option Byte) :
    Statement (.cueArm port tag start) := by
  rintro - _ _ ⟨⟩
  exact ⟨by decide, _, rfl, by cases start <;> simp⟩

theorem cueOff (port : Port) (tag : Byte) :
    Statement (.cueOff port tag) := by
  rintro - _ _ ⟨⟩
  exact ⟨by decide, _, rfl, .head _⟩

theorem cueGo (port : Port) (tag : Byte) :
    Statement (.cueGo port tag) := by
  rintro - _ _ ⟨⟩
  exact ⟨by decide, _, rfl, .head _⟩

theorem cueSkip (port : Port) (tag : Byte) :
    Statement (.cueSkip port tag) := by
  rintro - _ _ ⟨⟩
  exact ⟨by decide, _, rfl, .head _⟩

theorem cueRead (port : Port) (tag : Byte) (first : Byte) (count : Byte) :
    Statement (.cueRead port tag first count) := by
  rintro - _ _ ⟨⟩
  exact ⟨by decide, _, rfl, .head _⟩

theorem enable (port : Port) (tag : Byte) (level : Byte) :
    Statement (.enable port tag level) := by
  rintro - _ _ ⟨⟩
  exact ⟨by decide, _, rfl, .head _⟩

theorem portStatus (port : Port) (tag : Byte) :
    Statement (.portStatus port tag) := by
  rintro - _ _ ⟨⟩
  exact ⟨by decide, _, rfl, .head _⟩

theorem noticeRead (port : Port) (tag : Byte) :
    Statement (.noticeRead port tag) := by
  rintro - _ _ ⟨⟩
  exact ⟨by decide, _, rfl, .head _⟩

theorem noticeMask (port : Port) (tag : Byte) (kinds : BitVec 32) :
    Statement (.noticeMask port tag kinds) := by
  rintro - _ _ ⟨⟩
  exact ⟨by decide, _, rfl, .head _⟩

theorem warnConfig (port : Port) (tag : Byte) (enables : Byte) (polarity : Byte) :
    Statement (.warnConfig port tag enables polarity) := by
  rintro - _ _ ⟨⟩
  exact ⟨by decide, _, rfl, .head _⟩

end Sys2Proof.Laws.RequestLength
end

