-- ==== Sys2Proof/Laws/Requests.lean ====
section
/-! SUPPORT. The intake of a request, the prompts at an event's end, and an event: what each does, said once. -/

namespace Sys2Proof.Machine

/-! ## Prompts -/

theorem State.flushPrompt_quiet {s : State} {q : Port} (h : (s.notice q).prompt = false) : s.flushPrompt q = s := by
  simp [State.flushPrompt, h]

/-- With no prompt standing, an event's end does nothing. -/
theorem State.flushPrompts_quiet {s : State} (h : s.Quiet) : s.flushPrompts = s := by
  simp [State.flushPrompts, State.flushPrompt_quiet (h _)]

/-- One prompt acted on: the port's queue and notice set, and nothing else. -/
theorem State.flushPrompt_eq (s : State) (q : Port) : s.flushPrompt q =
    if (s.notice q).prompt then
      (if (s.port q).link = .up ∧ (s.port q).tx.length < 6 then
        (s.setNotice q { s.notice q with prompt := false }).queueTx q attention
      else s.setNotice q { s.notice q with prompt := false })
    else s := by
  simp only [State.flushPrompt, State.queueAttention, Config.txDepth]; rfl

theorem State.flushPrompt_port (s : State) (q x : Port) : (s.flushPrompt q).port x =
    if x = q ∧ (s.notice q).prompt = true ∧ (s.port q).link = .up ∧ (s.port q).tx.length < 6 then
      { s.port q with tx := (s.port q).tx ++ [attention] }
    else s.port x := by
  rw [State.flushPrompt_eq]; by_cases h : x = q <;> split_ifs <;> simp_all

theorem State.flushPrompt_notice (s : State) (q x : Port) : (s.flushPrompt q).notice x =
    if x = q then { s.notice q with prompt := false } else s.notice x := by
  have hn : (s.notice q).prompt = false → s.notice q = { s.notice q with prompt := false } := by
    intro h; cases hq : s.notice q; simp_all
  rw [State.flushPrompt_eq]
  by_cases h : x = q
  · subst h
    by_cases hp : (s.notice x).prompt
    · simp only [hp, if_true]; split_ifs <;> simp
    · simp [hp, ← hn (by simpa using hp)]
  · by_cases hp : (s.notice q).prompt
    · simp only [hp, if_true]; split_ifs <;> simp [h]
    · simp [hp, h]

/-- What the prompts of an event do at its end (R165). -/
theorem State.flushPrompts_port (s : State) (x : Port) : s.flushPrompts.port x =
    if (s.notice x).prompt = true ∧ (s.port x).link = .up ∧ (s.port x).tx.length < 6 then
      { s.port x with tx := (s.port x).tx ++ [attention] }
    else s.port x := by
  cases x <;> simp [State.flushPrompts, State.flushPrompt_port, State.flushPrompt_notice]

theorem State.flushPrompts_notice (s : State) (x : Port) : s.flushPrompts.notice x =
    { s.notice x with prompt := false } := by
  cases x <;> simp [State.flushPrompts, State.flushPrompt_notice]

theorem State.flushPrompts_fields (s : State) :
    s.flushPrompts = { s with ports := s.flushPrompts.ports, notices := s.flushPrompts.notices } := by
  have h : ∀ (t : State) q, t.flushPrompt q = { t with ports := (t.flushPrompt q).ports, notices := (t.flushPrompt q).notices } := by
    intro t q; rw [State.flushPrompt_eq]; split_ifs <;> rfl
  simp only [State.flushPrompts]
  rw [h (State.flushPrompt (State.flushPrompt s .a) .b) .c, h (State.flushPrompt s .a) .b, h s .a]

@[simp] theorem State.flushPrompts_pending (s : State) : s.flushPrompts.pending = s.pending := by
  rw [State.flushPrompts_fields]

@[simp] theorem State.flushPrompts_inReset (s : State) : s.flushPrompts.inReset = s.inReset := by
  rw [State.flushPrompts_fields]

@[simp] theorem State.flushPrompts_now (s : State) : s.flushPrompts.now = s.now := by
  rw [State.flushPrompts_fields]

@[simp] theorem State.flushPrompts_choice (s : State) : s.flushPrompts.choice = s.choice := by
  rw [State.flushPrompts_fields]

@[simp] theorem State.flushPrompts_points (s : State) : s.flushPrompts.points = s.points := by
  rw [State.flushPrompts_fields]

@[simp] theorem State.flushPrompts_slots (s : State) : s.flushPrompts.slots = s.slots := by
  rw [State.flushPrompts_fields]

@[simp] theorem State.flushPrompts_bus (s : State) : s.flushPrompts.bus = s.bus := by
  rw [State.flushPrompts_fields]

@[simp] theorem State.flushPrompts_service (s : State) : s.flushPrompts.service = s.service := by
  rw [State.flushPrompts_fields]

@[simp] theorem State.flushPrompts_groups (s : State) : s.flushPrompts.groups = s.groups := by
  rw [State.flushPrompts_fields]

@[simp] theorem State.flushPrompts_stopUnit (s : State) : s.flushPrompts.stopUnit = s.stopUnit := by
  rw [State.flushPrompts_fields]

@[simp] theorem State.flushPrompts_cue (s : State) : s.flushPrompts.cue = s.cue := by
  rw [State.flushPrompts_fields]

@[simp] theorem State.flushPrompts_warn (s : State) : s.flushPrompts.warn = s.warn := by
  rw [State.flushPrompts_fields]

@[simp] theorem State.flushPrompts_point (s : State) (x : PointId) : s.flushPrompts.point x = s.point x := by
  rw [State.flushPrompts_fields]; rfl

@[simp] theorem State.flushPrompts_slot (s : State) (x : SlotId) : s.flushPrompts.slot x = s.slot x := by
  rw [State.flushPrompts_fields]; rfl

@[simp] theorem State.flushPrompts_group (s : State) (x : GroupId) : s.flushPrompts.group x = s.group x := by
  rw [State.flushPrompts_fields]; rfl

/-- No prompt outlives an event. -/
theorem State.flushPrompts_calm (s : State) : s.flushPrompts.Quiet := fun q => by simp [State.flushPrompts_notice]

/-! ## Events -/

theorem State.event_running {s : State} (h : s.inReset = false) (f : State → State) :
    s.event f = (f s).flushPrompts := by simp [State.event, h]

theorem State.event_inReset {s : State} (h : s.inReset = true) (f : State → State) : s.event f = s := by
  simp [State.event, h]

/-! ## Requests -/

/-- A port's record as an arriving frame leaves it on an UP link. -/
def State.touched (s : State) (q : Port) : State := s.setPort q { s.port q with linkTimer := some (s.now + 1000) }

/-- The intake of an executed request: its effect on the state its frame left, its response, and the prompts. -/
theorem State.request_takes {s : State} {q : Port} (h : s.Takes q) (typ tag : Byte) (body : State → Answer) :
    s.request q typ tag body = ((body (s.touched q)).1.queueTx q
      ⟨typ ||| 0x80, tag, (body (s.touched q)).2.bytes⟩).flushPrompts := by
  have hl : (s.port q).link ≠ .down := by simp [h.linkUp]
  rw [State.request, State.event_running h.running]
  simp only [State.frameArrives, if_neg hl, State.intake, Config.txDepth, response]
  rw [if_pos (by simpa using h.room)]; rfl

/-! ### What the state after an arrival reads as -/

@[simp] theorem State.touched_point (s : State) (q : Port) (x) : (s.touched q).point x = s.point x := rfl
@[simp] theorem State.touched_slot (s : State) (q : Port) (x) : (s.touched q).slot x = s.slot x := rfl
@[simp] theorem State.touched_group (s : State) (q : Port) (x) : (s.touched q).group x = s.group x := rfl
@[simp] theorem State.touched_notice (s : State) (q : Port) (x) : (s.touched q).notice x = s.notice x := rfl
@[simp] theorem State.touched_pending (s : State) (q : Port) : (s.touched q).pending = s.pending := rfl
@[simp] theorem State.touched_inReset (s : State) (q : Port) : (s.touched q).inReset = s.inReset := rfl
@[simp] theorem State.touched_now (s : State) (q : Port) : (s.touched q).now = s.now := rfl
@[simp] theorem State.touched_choice (s : State) (q : Port) : (s.touched q).choice = s.choice := rfl
@[simp] theorem State.touched_points (s : State) (q : Port) : (s.touched q).points = s.points := rfl
@[simp] theorem State.touched_slots (s : State) (q : Port) : (s.touched q).slots = s.slots := rfl
@[simp] theorem State.touched_bus (s : State) (q : Port) : (s.touched q).bus = s.bus := rfl
@[simp] theorem State.touched_service (s : State) (q : Port) : (s.touched q).service = s.service := rfl
@[simp] theorem State.touched_groups (s : State) (q : Port) : (s.touched q).groups = s.groups := rfl
@[simp] theorem State.touched_stopUnit (s : State) (q : Port) : (s.touched q).stopUnit = s.stopUnit := rfl
@[simp] theorem State.touched_cue (s : State) (q : Port) : (s.touched q).cue = s.cue := rfl
@[simp] theorem State.touched_notices (s : State) (q : Port) : (s.touched q).notices = s.notices := rfl
@[simp] theorem State.touched_warn (s : State) (q : Port) : (s.touched q).warn = s.warn := rfl

@[simp] theorem State.touched_port (s : State) (q x : Port) : (s.touched q).port x =
    if x = q then { s.port q with linkTimer := some (s.now + 1000) } else s.port x := by simp [State.touched]

@[simp] theorem State.touched_pos (s : State) (q : Port) (p : PointId) : (s.touched q).pos p = s.pos p := rfl
@[simp] theorem State.touched_sense (s : State) (q : Port) (p : PointId) : (s.touched q).sense p = s.sense p := rfl
@[simp] theorem State.touched_accepted (s : State) (q : Port) (p : PointId) : (s.touched q).accepted p = s.accepted p := rfl
@[simp] theorem State.touched_pointActive (s : State) (q : Port) (p : PointId) : (s.touched q).pointActive p = s.pointActive p := rfl
@[simp] theorem State.touched_requested (s : State) (q : Port) (p : PointId) : (s.touched q).requested p = s.requested p := rfl

/-! ### Updates after an arrival -/

@[simp] theorem State.touched_setPoint (s : State) (q : Port) (p r) : (s.touched q).setPoint p r = (s.setPoint p r).touched q := rfl
@[simp] theorem State.touched_setSlot (s : State) (q : Port) (n r) : (s.touched q).setSlot n r = (s.setSlot n r).touched q := rfl
@[simp] theorem State.touched_setGroup (s : State) (q : Port) (g r) : (s.touched q).setGroup g r = (s.setGroup g r).touched q := rfl
@[simp] theorem State.touched_setNotice (s : State) (q : Port) (x n) : (s.touched q).setNotice x n = (s.setNotice x n).touched q := rfl
@[simp] theorem State.touched_setLoad (s : State) (q : Port) (p l) : (s.touched q).setLoad p l = (s.setLoad p l).touched q := rfl
@[simp] theorem State.touched_setStop (s : State) (q : Port) (p t) : (s.touched q).setStop p t = (s.setStop p t).touched q := rfl
@[simp] theorem State.touched_setBus (s : State) (q : Port) (b) : (s.touched q).setBus b = (s.setBus b).touched q := rfl
@[simp] theorem State.touched_setService (s : State) (q : Port) (e) : (s.touched q).setService e = (s.setService e).touched q := rfl
@[simp] theorem State.touched_setStopUnit (s : State) (q : Port) (u) : (s.touched q).setStopUnit u = (s.setStopUnit u).touched q := rfl
@[simp] theorem State.touched_setCue (s : State) (q : Port) (c) : (s.touched q).setCue c = (s.setCue c).touched q := rfl
@[simp] theorem State.touched_setWarn (s : State) (q : Port) (w) : (s.touched q).setWarn w = (s.setWarn w).touched q := rfl
@[simp] theorem State.touched_setActive (s : State) (q : Port) (j) : (s.touched q).setActive j = (s.setActive j).touched q := rfl
@[simp] theorem State.touched_setJoinList (s : State) (q : Port) (l) : (s.touched q).setJoinList l = (s.setJoinList l).touched q := rfl
@[simp] theorem State.touched_setPortQueue (s : State) (q : Port) (l) : (s.touched q).setPortQueue l = (s.setPortQueue l).touched q := rfl
@[simp] theorem State.touched_dropJoin (s : State) (q : Port) (n) : (s.touched q).dropJoin n = (s.dropJoin n).touched q := rfl
@[simp] theorem State.touched_discardJob (s : State) (q : Port) (p) : (s.touched q).discardJob p = (s.discardJob p).touched q := rfl
@[simp] theorem State.touched_notify (s : State) (q : Port) (x k u) : (s.touched q).notify x k u = (s.notify x k u).touched q := rfl
@[simp] theorem State.touched_notifyAll (s : State) (q : Port) (k u) : (s.touched q).notifyAll k u = (s.notifyAll k u).touched q := rfl

@[simp] theorem State.touched_notifyOpt (s : State) (q : Port) (o : Option Port) (k : NoticeKind) (u : Subject) :
    (s.touched q).notifyOpt o k u = (s.notifyOpt o k u).touched q := by cases o <;> rfl

/-! ### A request executed -/

/-- A request whose effect on the arrival's state is u's arrival answers u with its response. -/
theorem State.request_effect {s : State} {q : Port} (h : s.Takes q) (typ tag : Byte) (body : State → Answer) (u : State)
    (r : Reply) (hb : body (s.touched q) = (u.touched q, r)) :
    s.request q typ tag body = (u.answered q (typ ||| 0x80) tag r.bytes).flushPrompts := by
  rw [State.request_takes h, hb]; simp [State.answered, State.queueTx, State.touched, -State.touched_port]

theorem State.answered_quiet {u : State} (h : u.Quiet) (q : Port) (typ tag : Byte) (payload : List Byte) :
    (u.answered q typ tag payload).flushPrompts = u.answered q typ tag payload :=
  State.flushPrompts_quiet fun x => by simpa [State.answered] using h x

/-- The same with no prompt raised. -/
theorem State.request_calm {s : State} {q : Port} (h : s.Takes q) (typ tag : Byte) (body : State → Answer) (u : State)
    (r : Reply) (hu : u.Quiet) (hb : body (s.touched q) = (u.touched q, r)) :
    s.request q typ tag body = u.answered q (typ ||| 0x80) tag r.bytes := by
  rw [State.request_effect h _ _ _ u _ hb, State.answered_quiet hu]

/-- A request that only answers. -/
theorem State.request_answers {s : State} {q : Port} (h : s.Takes q) (typ tag : Byte) (body : State → Answer) (r : Reply)
    (hb : body (s.touched q) = (s.touched q, r)) :
    s.request q typ tag body = s.answered q (typ ||| 0x80) tag r.bytes :=
  State.request_calm h _ _ _ s _ h.quiet hb

end Sys2Proof.Machine
end

