-- ==== Sys2Proof/Tests/Slice0.lean ====
section
/-! SUPPORT. Tests: ill-formed terms, the worked examples of spec/, small tests of each command, and for each statement with
hypotheses a state and operands that meet them. -/

open Sys2Proof Sys2Proof.Machine

namespace Sys2Proof.Tests

-- One kernel evaluation at a time: each runs in a thread of its own, and together they fill the memory.
set_option Elab.async false

/-! ## Helpers -/

/-- The state a command leaves. -/
def after (c : Instr) (s : State) : State :=
  match exec c s with
  | .next t => t
  | .fault _ => s
  | .refused _ => s

/-- What a request of port A is answered in a state whose queue is empty. -/
def reply (c : Instr) (s : State) : Option TxFrame := (after c s).ports.a.tx.head?

/-- The notices of a port, with their subjects and counts. -/
def noted (s : State) (q : Port) : List (NoticeKind × Subject × Nat) :=
  (s.notice q).records.map fun r => (r.kind, r.subject, r.count)

def linked : PortRec := { PortRec.reset with link := .up, linkTimer := some 1000 }

/-- A with its enable held, B linked, C down, and the mains CLOSED. -/
def base : State := { State.reset with
  ports := ⟨{ linked with enable := true, enableWindow := some 200 }, linked, PortRec.reset⟩
  stopUnit := { State.reset.stopUnit with mains := .closed } }

def clear : PerKind Bool := ⟨false, false, false, false⟩

def resting (p : PointId) : Member := ⟨p, .still, none, none, none, none, false, none, 0⟩

/-- A point on a slot at a position, with a calibration and a load of 600 kg (Table 3-2, first line). -/
def hung (n : SlotId) (x : Identity) (raw : Word16) (g : Option GroupId) : PointRec := { PointRec.reset with
  identity := some x
  softMin := 0
  softMax := 8000
  boundSlot := some n
  lastSlot := some n
  raw := some raw
  load := { LoadPart.reset with
    cal := some ⟨412, 2000, 1000⟩
    window := [1640, 1642, 1638, 1641, 1645, 1639, 1640, 1643]
    discardNext := false
    value := .kg 600
    high := 1000 }
  group := g }

def carrying (p : PointId) (x : Identity) (v : Sense) : SlotRec := { SlotRec.reset with
  state := .bound
  identity := some x
  point := some p
  presence := 4
  candidate := some ⟨clear, v⟩
  accepted := some ⟨clear, v⟩
  lastSeq := some 3 }

/-- Points P1 and P2 hang on slots 5 and 6 as group G3 of port A; P3 hangs on slot 7 in no group; all with sense v. -/
def rigged (v : Sense) : State := { base with
  points := ((base.points.set 0 (hung 5 0x11 3000 (some 2))).set 1 (hung 6 0x12 3004 (some 2))).set 2 (hung 7 0x13 3000 none)
  slots := ((base.slots.set 5 (carrying 0 0x11 v)).set 6 (carrying 1 0x12 v)).set 7 (carrying 2 0x13 v)
  groups := base.groups.set 2 { GroupRec.reset with holder := some .a, members := [resting 0, resting 1] } }

def rig : State := rigged .still

/-- G3 travels up by 2000 (11_worked_sequences.md 11.4), its hoists reporting UP. -/
def going : State :=
  let s := rigged .up
  s.setGroup 2 { s.group 2 with
    members := [⟨0, .run, some 3000, some 5000, some 600, none, false, some 400, 0⟩,
      ⟨1, .run, some 3004, some 5004, some 600, none, false, some 400, 0⟩]
    state := .moving
    kind := .target
    dir := .up
    applied := 2000 }

/-- An upstream field with its check. -/
def field (b0 b1 b2 b3 b4 b5 : Byte) : UpField := ⟨b0, b1, b2, b3, b4, b5, slotCheck [b0, b1, b2, b3, b4, b5]⟩

/-- A job at its first byte. -/
def job (n : SlotId) (k : ServiceKind) (o : JobOrigin) (p : Option PointId) (w : Option Cal) : Job :=
  ⟨n, k, o, p, w, .sending, 0, [], 0, none, false⟩

theorem quiet_of {s : State} (h : (!(s.notice .a).prompt && !(s.notice .b).prompt && !(s.notice .c).prompt) = true) :
    s.Quiet := by
  simp only [Bool.and_eq_true, Bool.not_eq_true'] at h
  intro q; cases q
  · exact h.1.1
  · exact h.1.2
  · exact h.2

theorem takes_of {s : State} {q : Port} (h : (!s.inReset && (!(s.notice .a).prompt && !(s.notice .b).prompt &&
    !(s.notice .c).prompt) && (s.port q).link == .up && decide ((s.port q).tx.length < 6)) = true) : s.Takes q := by
  simp only [Bool.and_eq_true, Bool.not_eq_true', beq_iff_eq, decide_eq_true_eq] at h
  obtain ⟨⟨⟨h1, h2⟩, h3⟩, h4⟩ := h
  exact ⟨h1, quiet_of (by simp [h2]), h3, h4⟩

theorem ports_of {P : Port → Prop} (a : P .a) (b : P .b) (c : P .c) : ∀ q, P q := by
  intro q; cases q <;> assumption

/-! ## Terms the outside world cannot send -/

theorem test_response_of_eight_bytes_is_ill_formed :
    (Instr.serviceJobEnd (.response (List.replicate 8 0))).wellFormed = false := by decide

theorem test_payload_of_61_is_ill_formed : (Instr.frameReceived .a 1 1 (List.replicate 61 0) 0).wellFormed = false := by
  decide

theorem test_25_members_are_ill_formed : (Instr.setMembers .a 1 1 (List.replicate 25 1)).wellFormed = false := by decide

theorem test_boundary_terms_are_well_formed : (Instr.serviceJobEnd (.response (List.replicate 7 0))).wellFormed = true ∧
    (Instr.frameReceived .a 1 1 (List.replicate 60 0) 0).wellFormed = true ∧
    (Instr.setMembers .a 1 1 (List.replicate 24 1)).wellFormed = true := by decide

/-! ## Worked examples of the manual -/

/-- Table 3-2. -/
theorem test_conversions :
    convertLoad [1640, 1642, 1638, 1641, 1645, 1639, 1640, 1643] ⟨412, 2000, 1000⟩ = .kg 600 ∧
    convertLoad (List.replicate 8 410) ⟨412, 2000, 1000⟩ = .kg (-1) ∧
    convertLoad (List.replicate 8 501) ⟨500, 2048, 1000⟩ = .kg 1 ∧
    convertLoad (List.replicate 8 499) ⟨500, 2048, 1000⟩ = .kg (-1) ∧
    convertLoad [1640, 1642, 4095, 1641, 1645, 1639, 1640, 1643] ⟨412, 2000, 1000⟩ = .over := by decide +kernel

/-- Tables 5-7 and 11-5, and the ends of R102's range. -/
theorem test_stop_lead_learning : learnedLead 18 18 = 18 ∧ learnedLead 17 18 = 17 ∧ learnedLead 19 22 = 20 ∧
    learnedLead 16 15 = 16 ∧ learnedLead 250 250 = 250 ∧ learnedLead 0 0 = 0 ∧ measuredCoast 5001 4979 .up = 22 := by
  decide

/-- Tables 10-2 and 10-7: how ATTENTION begins, and a downstream field before its check. -/
theorem test_frame_bytes : (TxFrame.bytes ⟨0x7F, 0, []⟩).take 4 = [0xA5, 0x00, 0x7F, 0x00] ∧
    (DownField.bytes ⟨.up, true, 0xFF, .fourth⟩).take 2 = [0x1D, 0xFF] := by decide +kernel

/-- Table 5-5: MOVE_TO 7000 on four points is clamped to 3496 and leads to 6496. -/
theorem test_clamped_travel :
    let at' := fun (x : Word16) (top : Int) => { hung 5 0x11 x (some 2) with softMax := top }
    let s := { rig with
      points := (((rig.points.set 6 (at' 3000 8000)).set 7 (at' 3004 6500)).set 8 (at' 2998 9000)).set 9 (at' 3001 9000)
      groups := rig.groups.set 2 { rig.group 2 with members := [resting 6, resting 7, resting 8, resting 9] } }
    s.travel 2 (.height 7000) = 4000 ∧ s.clampTravel 2 4000 = 3496 := by decide +kernel

/-- Table 5-6: P8 pauses at a lead of 10 and runs again at a lead of 2. -/
theorem test_skew_pause_and_resume :
    let m := fun (p : PointId) (x : Int) (v : MemberState) => (⟨p, v, some x, some (x + 2000), some 600, none, false, none, 4⟩ : Member)
    let s := fun (a b c d : Word16) (v : MemberState) => { going with
      points := (((going.points.set 6 (hung 5 0x11 a (some 2))).set 7 (hung 5 0x11 b (some 2))).set 8
        (hung 5 0x11 c (some 2))).set 9 (hung 5 0x11 d (some 2))
      groups := going.groups.set 2 { going.group 2 with
        members := [m 6 3000 .run, m 7 3004 v, m 8 2998 .run, m 9 3001 .run] } }
    (((s 3400 3414 3401 3403 .run).levelMembers 2).group 2).members.map Member.state = [.run, .pause, .run, .run] ∧
    (((s 3410 3416 3411 3413 .pause).levelMembers 2).group 2).members.map Member.state = [.run, .run, .run, .run] := by
  decide +kernel

/-- The share band of section 11.4: 88 kg for a baseline of 590 and 15 percent. -/
theorem test_share_band : shareBand 590 15 = 88 ∧ shareBand (-100) 15 = 20 := by decide

/-- Table 3-4: the latched overload of P9. -/
theorem test_latched_overload :
    let l := fun (v : Int) => { LoadPart.reset with value := .kg v, high := 800, low := 150, alarm := .latch }
    let run := fun (c : Condition) (v : Int) => (c.evaluate (l v).aboveHigh (l v).atHighExit .latch).1
    run ⟨false, false⟩ 742 = ⟨false, false⟩ ∧ run ⟨false, false⟩ 806 = ⟨true, false⟩ ∧ run ⟨true, false⟩ 785 = ⟨true, false⟩ ∧
    run ⟨true, false⟩ 776 = ⟨true, true⟩ ∧ run ⟨true, true⟩ 803 = ⟨true, false⟩ ∧ run ⟨true, false⟩ 764 = ⟨true, true⟩ := by
  decide

/-- Table 9-4: a suppressed notice, a repeat that keeps its place, and what a read leaves. -/
theorem test_notice_set :
    let n : NoticeSet := ⟨[⟨.orphaned, .group 4, 1⟩], false, 0xC00, false⟩
    let m := (((n.record .dutyHot (.point 11)).record .overload (.point 8)).record .overloadCleared (.point 8)).record
      .overload (.point 8)
    m.records = [⟨.orphaned, .group 4, 1⟩, ⟨.overload, .point 8, 2⟩, ⟨.overloadCleared, .point 8, 1⟩] ∧
      m.prompt = false := by decide

/-! ## Commands, one small step each -/

theorem test_resetn_assert : base.mainsLine = true ∧ (after .resetnAssert base).mainsLine = false := by decide +kernel

theorem test_resetn_release :
    let t := after (.resetnRelease .low .high) (after .resetnAssert going)
    (t.group 2).state = .idle ∧ t.stopUnit.estop = true ∧ t.cue.level = .high ∧ noted t .b = [(.estop, .none, 1)] := by
  decide +kernel

/-- The slots of two RUN members are sent UP, with the epoch mark off in frame 1, and the last-run mark is set. -/
theorem test_frame : let t := after .frame going
    t.bus.downstream[5] = ⟨.up, false, 0xFF, .idle⟩ ∧ t.bus.downstream[7].command = .stop ∧ t.bus.framePos = 1 ∧
    (t.point 0).lastRun = some 2 ∧ (t.point 2).lastRun = none := by decide +kernel

/-- Position 3000, code 0x666, sequence 3 as before: the position is stored and no sample arrives. -/
theorem test_upstream_field : let t := after (.upstreamField 7 (some (field 0x00 0x0B 0xB9 0x66 0x63 0xFF))) rig
    (t.point 2).raw = some 3001 ∧ (t.point 2).load = (rig.point 2).load ∧ (t.slot 7).miss = 0 := by decide +kernel

/-- A new sequence delivers its code to the window, and a field whose check does not match raises the miss counter. -/
theorem test_upstream_sample_and_miss :
    ((after (.upstreamField 7 (some (field 0x00 0x0B 0xB8 0x66 0x74 0xFF))) rig).point 2).load.window =
      [1642, 1638, 1641, 1645, 1639, 1640, 1643, 0x667] ∧
    ((after (.upstreamField 7 (some ⟨0, 0, 0, 0, 0, 0, 1⟩)) rig).slot 7).miss = 1 := by decide +kernel

theorem test_slot_joining :
    let s := rig.setSlot 9 { SlotRec.reset with presence := 3, lastSeq := some 1 }
    let t := after (.slotJoining 9) s
    (t.slot 9).state = .joining ∧ t.service.active.map Job.kind = some .ident := by decide +kernel

theorem test_slot_lost :
    let s := going.setSlot 6 { going.slot 6 with miss := 7 }
    let t := after (.slotLost 6) s
    (t.slot 6).state = .empty ∧ (t.point 1).boundSlot = none ∧ (t.point 1).lastSlot = some 6 ∧
    (t.group 2).fault = some ⟨.nodeLost, some 1⟩ ∧ noted t .b = [(.groupFault, .group 2, 1), (.nodeLost, .point 1, 1)] := by
  decide +kernel

/-- Section 2.10: the IDENT of slot 3 returns 0x1A200088 and binds the point patched with it; CAL_READ follows. -/
theorem test_service_job_end :
    let s := { base with
      points := base.points.set 7 { PointRec.reset with identity := some 0x1A200088 }
      slots := base.slots.set 3 { SlotRec.reset with state := .joining, presence := 4 }
      service := ⟨some (job 3 .ident .join none none), [], []⟩ }
    let t := after (.serviceJobEnd (.response [0x00, 0x1A, 0x20, 0x00, 0x88])) s
    (t.slot 3).state = .bound ∧ (t.point 7).boundSlot = some 3 ∧ t.service.active.map Job.kind = some .calRead ∧
    noted t .c = [(.nodeJoined, .point 7, 1)] := by decide +kernel

theorem test_service_job_start :
    let s := rig.setService ⟨none, [], [⟨.b, 0, 4, none⟩, ⟨.b, 1, 6, none⟩]⟩
    let t := after .serviceJobStart s
    t.service.active.map Job.slot = some 6 ∧ noted t .b = [(.serviceFailed, .point 0, 1)] ∧ noted t .a = [] := by
  decide +kernel

theorem test_service_timeout :
    let s := fun n => rig.setService ⟨some { job 5 .calRead (.port .b) (some 0) none with count := n }, [], []⟩
    (after .serviceTimeout (s 64)).service.active = none ∧ ((after .serviceTimeout (s 64)).slot 5).idleOwed = 2 ∧
    noted (after .serviceTimeout (s 64)) .b = [(.serviceFailed, .point 0, 1)] ∧
    (after .serviceTimeout (s 63)).service.active ≠ none := by decide +kernel

/-- R38: ABORT in the two fields that answer the END pair ends the transfer (section 2.8.1). -/
theorem test_abort_in_both_end_frames :
    let s := rig.setService ⟨some { job 7 .calRead (.port .b) (some 2) none with phase := .ending 0 }, [], []⟩
    let answer := Instr.upstreamField 7 (some (field 0xC0 0x0B 0xB8 0x66 0x63 0xFF))
    let t := after answer (after .frame s)
    t.service.active ≠ none ∧ (after answer (after .frame t)).service.active = none ∧
    noted (after answer (after .frame t)) .b = [(.serviceFailed, .point 2, 1)] := by decide +kernel

/-- R16, R44: the result of a CAL_READ under way is discarded, though its point is patched back to the same slot. -/
theorem test_discarded_cal_read :
    let s := rig.setService ⟨some (job 7 .calRead (.port .b) (some 2) none), [], []⟩
    let t := after (.patchPoint .a 2 3 0x13 0 8000 0) (after (.unpatch .a 1 3) s)
    let u := after (.serviceJobEnd (.response [0, 0x01, 0x9C, 0x07, 0xD0, 0x03, 0xE8])) t
    (t.point 2).boundSlot = some 7 ∧ (u.point 2).load.cal = none ∧
    noted u .b = [(.nodeForeign, .slot 7, 1), (.nodeJoined, .point 2, 1), (.serviceFailed, .point 2, 1)] := by
  decide +kernel

/-- The run timer that finds the hoist STILL faults the group; one that finds it going UP only stops. -/
theorem test_run_timer_expiry :
    let s := { going with now := 400 }
    ((after (.runTimerExpiry 0) s).group 2).state = .moving ∧
    ((after (.runTimerExpiry 0) { s with slots := s.slots.set 5 (carrying 0 0x11 .still) }).group 2).fault =
      some ⟨.noMotion, some 0⟩ := by decide +kernel

theorem test_runaway_allowance_expiry :
    let s := fun n => { going with now := n, points := going.points.set 2 { going.point 2 with lastRun := some 1000 } }
    ((after (.runawayAllowanceExpiry 2) (s 2499)).point 2).stop.runaway = false ∧
    ((after (.runawayAllowanceExpiry 2) (s 2500)).point 2).stop.runaway = true ∧
    (after (.runawayAllowanceExpiry 2) (s 2500)).stopUnit.tripCause = .runaway 2 ∧
    ((after (.runawayAllowanceExpiry 2) (s 2500)).group 2).fault = some ⟨.mains, none⟩ := by decide +kernel

theorem test_estop_assertion : let t := after .estopAssertion going
    t.stopUnit.mains = .tripped ∧ t.stopUnit.tripCause = .estop ∧ (t.group 2).fault = some ⟨.estop, none⟩ ∧
    noted t .c = [(.estop, .none, 1), (.mainsTripped, .none, 1), (.groupFault, .group 2, 1)] := by decide +kernel

theorem test_estop_release :
    let s := rig.setStopUnit ⟨true, .tripped, .estop, ⟨false, false, false⟩⟩
    (after .estopRelease s).stopUnit = ⟨false, .tripped, .estop, ⟨false, false, false⟩⟩ ∧
    noted (after .estopRelease s) .a = [(.estopClear, .none, 1)] := by decide +kernel

/-- One cue, MOVE_BY G3 +600, owned by A and READY. -/
def cued (src : GoSource) (mode : LineMode) : State := rig.setCue { rig.cue with
  list := [⟨2, .moveBy, 600, false⟩], state := .ready, owner := some .a, source := src, mode := mode }

/-- Table 7-5, first two rows. -/
theorem test_cue_line_change : let t := after (.cueLineChange .high) (cued .line .high)
    t.cue.state = .running ∧ t.cue.pointer = 1 ∧ t.cue.firedGroup = some 2 ∧ t.cue.rearm = some 250 ∧
    (t.group 2).origin = .cue ∧ noted t .a = [(.cueFired, .cue 0, 1)] := by decide +kernel

theorem test_rearm_timer_expiry :
    let s := { cued .line .high with now := 250 }
    let t := after .rearmTimerExpiry (s.setCue { s.cue with
      level := .high, rearm := some 250, state := .running, pointer := 1, firedIndex := some 0, firedGroup := some 2 })
    t.cue.rearm = some 500 ∧ t.cue.state = .running ∧ noted t .a = [(.cueEarly, .cue 0, 1)] := by decide +kernel

/-- A receiver with a frame in assembly. -/
def heard (bytes : List Byte) : State :=
  base.setPort .a { base.port .a with receiver := .inFrame bytes, gapTimer := some 20 }

theorem test_rx_character :
    ((after (.rxCharacter .a 0x00 true) (heard [0xA5])).port .a).receiver = .inFrame [0xA5, 0x00] ∧
    ((after (.rxCharacter .a 61 true) (heard [0xA5])).port .a).errors = 1 ∧
    ((after (.rxCharacter .b 0x5A true) base).port .b).receiver = .hunting := by decide +kernel

/-- Table 8-5: the broken frame is abandoned and the error counter goes from 4 to 5. -/
theorem test_gap_timer_expiry :
    let s := { heard [0xA5, 0x01, 0x02] with now := 20 }
    let t := after (.gapTimerExpiry .a) (s.setPort .a { s.port .a with errors := 4 })
    (t.port .a).receiver = .hunting ∧ (t.port .a).errors = 5 ∧ (t.port .a).linkTimer = some 1000 := by decide +kernel

/-- A frame with its CRC is answered; with another it is counted. -/
theorem test_frame_received :
    reply (.frameReceived .a 0x03 7 [] (frameCrc 0x03 7 [])) base = some ⟨0x83, 7, [0, 0, 0]⟩ ∧
    ((after (.frameReceived .a 0x03 7 [] (frameCrc 0x03 7 [] + 1)) base).port .a).errors = 1 := by decide +kernel

theorem test_tx_frame_end :
    let s := base.setPort .a { base.port .a with tx := [⟨0x81, 1, []⟩, ⟨0x7F, 0, []⟩] }
    ((after (.txFrameEnd .a) s).port .a).tx = [⟨0x7F, 0, []⟩] := by decide +kernel

/-- Table 11-7, the row of 1000 ms. -/
theorem test_link_timer_expiry : let t := after (.linkTimerExpiry .a) { rig with now := 1000 }
    (t.port .a).link = .down ∧ (t.port .a).enable = false ∧ (t.group 2).orphaned = true ∧
    (t.group 2).holder = some .a ∧ noted t .c = [(.orphaned, .group 2, 1)] := by decide +kernel

/-- Table 11-7, the row of 200 ms. -/
theorem test_enable_window_expiry : let t := after (.enableWindowExpiry .a) { going with now := 200 }
    (t.port .a).enable = false ∧ (t.group 2).state = .stopping ∧ (t.group 2).stopCause = some .enable := by decide +kernel

/-- Section 11.2: a point patched without a slot, and with the FOREIGN slot that carries the identity. -/
theorem test_patch_point :
    reply (.patchPoint .a 1 10 0x1A200104 0 9000 0) base =
      some ⟨0x90, 1, [0, 1, 0x1A, 0x20, 0x01, 0x04, 0, 0, 0, 0, 0x23, 0x28, 0, 0, 0xFF, 0xFF]⟩ ∧
    let s := base.setSlot 17 { SlotRec.reset with state := .foreign, identity := some 0x1A200104, presence := 4 }
    let t := after (.patchPoint .a 1 10 0x1A200104 0 9000 0) s
    (t.slot 17).point = some 9 ∧ t.service.active = some (job 17 .calRead .calibration (some 9) none) ∧
    noted t .b = [(.nodeJoined, .point 9, 1)] := by decide +kernel

theorem test_unpatch : let t := after (.unpatch .a 1 3) rig
    (t.point 2).identity = none ∧ (t.point 2).load.cal = none ∧ (t.point 2).softMax = 8000 ∧
    (t.slot 7).state = .foreign ∧ (t.slot 7).identity = some 0x13 := by decide +kernel

theorem test_point_read : reply (.pointRead .a 1 1) rig = some ⟨0x92, 1,
    [0, 1, 0, 0, 0, 0x11, 0, 0, 0, 0, 0x1F, 0x40, 0, 0, 5, 5, 0, 0x0B, 0xB8, 0x02, 0x58, 3, 0]⟩ := by decide +kernel

theorem test_slot_read : reply (.slotRead .a 1 4 2) rig =
      some ⟨0x93, 1, [0, 0, 0, 0, 0, 0, 0, 0, 0, 2, 0, 0, 0, 0x11, 1, 4, 0]⟩ ∧
    reply (.slotRead .a 1 42 7) rig = some ⟨0x93, 1, [3]⟩ := by decide +kernel

theorem test_bus_config : let t := after (.busConfig .a 1 8 0) rig
    t.bus.epoch = .e8 ∧ t.bus.mode = .single ∧ (t.point 0).load.value = .absent ∧ (t.slot 5).candidate = none ∧
    (t.slot 5).accepted = some ⟨clear, .still⟩ := by decide +kernel

/-- Section 3.11: the new zero is 1641. -/
theorem test_tare : let t := after (.tare .a 1 3) rig
    reply (.tare .a 1 3) rig = some ⟨0xA0, 1, [0, 0x06, 0x69]⟩ ∧
    t.service.active = some (job 7 .calWrite (.port .a) (some 2) (some ⟨1641, 2000, 1000⟩)) := by decide +kernel

theorem test_cal_write : reply (.calWrite .a 1 3 412 2000 1000) rig = some ⟨0xA1, 1, [0]⟩ ∧
    reply (.calWrite .a 1 3 4096 2000 1000) rig = some ⟨0xA1, 1, [3]⟩ := by decide +kernel

/-- A point that hangs on no slot is NOT_READY (UNBOUND). -/
theorem test_cal_read : reply (.calRead .a 1 3) rig = some ⟨0xA2, 1, [0]⟩ ∧
    reply (.calRead .a 1 4) rig = some ⟨0xA2, 1, [7, 2, 4]⟩ := by decide +kernel

/-- Table 3-4, its last row. -/
theorem test_clear_load_alarm :
    let s := rig.setLoad 2 { (rig.point 2).load with alarm := .latch, overload := ⟨true, true⟩ }
    reply (.clearLoadAlarm .a 1 3) s = some ⟨0xA3, 1, [0, 0, 0]⟩ ∧
    noted (after (.clearLoadAlarm .a 1 3) s) .b = [(.overloadCleared, .point 2, 1)] := by decide +kernel

/-- Table 11-3: 800, 150, 20, LATCH; and a high_kg below the load makes the overload ACTIVE at once. -/
theorem test_set_load_limits :
    reply (.setLoadLimits .a 1 3 800 150 20 1) rig = some ⟨0xA4, 1, [0, 0x03, 0x20, 0, 0x96, 0, 0x14, 1]⟩ ∧
    ((after (.setLoadLimits .a 1 3 599 150 20 1) rig).point 2).load.overload = ⟨true, false⟩ := by decide +kernel

theorem test_set_duty_limit : reply (.setDutyLimit .a 1 3 299) rig = some ⟨0xA5, 1, [0, 0x01, 0x2C, 0, 0, 0]⟩ := by
  decide +kernel

theorem test_load_read : reply (.loadRead .a 1 3) rig = some ⟨0xA6, 1,
    [0, 1, 0x01, 0x9C, 0x07, 0xD0, 0x03, 0xE8, 8, 0x02, 0x58, 0x03, 0xE8, 0, 0, 0, 0x14, 0, 0, 0, 0x83, 0xD6]⟩ := by
  decide +kernel

/-- Table 4-6: P2 is in use by G3, and G3's own list may be reordered and shortened. -/
theorem test_set_members :
    reply (.setMembers .a 1 4 [3, 2]) (rig.setGroup 3 { rig.group 3 with holder := some .a }) =
      some ⟨0xB0, 1, [8, 16, 2, 3]⟩ ∧
    let t := after (.setMembers .a 1 3 [3, 2]) rig
    (t.group 2).members = [resting 2, resting 1] ∧ (t.point 0).group = none ∧ (t.point 2).group = some 2 := by decide +kernel

/-- Table 11-3: CLAIM by A, then by B. -/
theorem test_claim :
    let t := after (.claim .a 1 4) rig
    (t.group 3).holder = some .a ∧ noted t .c = [(.claimChanged, .group 3, 1)] ∧
    ((after (.claim .b 1 4) t).ports.b.tx.map TxFrame.payload) = [[], [5, 1]] := by decide +kernel

theorem test_release : ((after (.release .a 1 3) rig).group 2).holder = none ∧
    reply (.release .a 1 3) going = some ⟨0xB2, 1, [6]⟩ := by decide +kernel

/-- Table 11-7: the pendant's two TAKEOVERs. -/
theorem test_takeover :
    let s := rig.setGroup 2 { rig.group 2 with holder := some .b }
    reply (.takeover .a 1 3) s = some ⟨0xB3, 1, [5, 2]⟩ ∧
    ((after (.takeover .a 1 3) (s.setGroup 2 { s.group 2 with orphaned := true })).group 2).holder = some .a := by
  decide +kernel

/-- Section 4.6: pause 120, resume 150 and trip 40 are stored as 100, 99 and 110. -/
theorem test_set_bands : reply (.setBands .a 1 3 120 150 40 15 20) rig =
    some ⟨0xB4, 1, [0, 0, 100, 0, 99, 0, 110, 0, 15, 0, 20]⟩ := by decide +kernel

theorem test_group_read : reply (.groupRead .a 1 3) rig =
    some ⟨0xB5, 1, [0, 1, 0, 10, 4, 0, 60, 15, 20, 0, 0, 1, 0, 0, 2, 1, 2]⟩ := by decide +kernel

/-- Table 5-5 again, on two points: the least of soft_max - pos is 8000 - 3004. -/
theorem test_move_to :
    let t := after (.moveTo .a 1 3 9000) rig
    (t.group 2).state = .moving ∧ (t.group 2).applied = 4996 ∧
    (t.group 2).members.map Member.target = [some 7996, some 8000] ∧ noted t .a = [(.targetClamped, .group 2, 1)] := by
  decide +kernel

theorem test_move_by : reply (.moveBy .a 1 3 2000) rig = some ⟨0xC1, 1, [0, 0, 0x07, 0xD0, 1]⟩ ∧
    reply (.moveBy .a 1 3 2000) (rig.setStopUnit { rig.stopUnit with hold := ⟨false, false, true⟩ }) =
      some ⟨0xC1, 1, [8, 9, 0]⟩ := by decide +kernel

theorem test_jog : reply (.jog .a 1 3 1) rig = some ⟨0xC2, 1, [0, 0, 0, 0, 0xFF]⟩ ∧
    ((after (.jog .a 1 3 1) rig).group 2).members.map Member.target = [none, none] := by decide +kernel

theorem test_stop : let t := after (.stop .a 1 3) going
    reply (.stop .a 1 3) going = some ⟨0xC3, 1, [0, 2]⟩ ∧ (t.group 2).stopCause = some .stop ∧
    (t.group 2).members.map Member.state = [.halt, .halt] := by decide +kernel

theorem test_ack_fault :
    let s := rig.setGroup 2 { rig.group 2 with state := .fault, fault := some ⟨.mains, none⟩ }
    ((after (.ackFault .a 1 3) s).group 2).state = .idle ∧ ((after (.ackFault .a 1 3) s).group 2).fault = none ∧
    reply (.ackFault .a 1 3) { s with slots := going.slots } = some ⟨0xC4, 1, [6]⟩ := by decide +kernel

theorem test_set_stop_lead : reply (.setStopLead .a 1 3 300) rig = some ⟨0xC5, 1, [0, 250]⟩ := by decide +kernel

/-- Table 10-4, MOTION_READ of a move under way, from the second member on. -/
theorem test_motion_read : reply (.motionRead .a 1 3 (some 1)) going = some ⟨0xC6, 1,
    [0, 1, 0, 1, 0, 0, 0x07, 0xD0, 0, 0, 0, 2, 1, 2, 1, 0, 0x0B, 0xBC, 0, 0x0B, 0xBC, 0, 0x13, 0x8C, 0x02, 0x58,
      0x80, 0, 0, 0, 0x02, 0x58, 15, 0, 0]⟩ := by decide +kernel

/-- Table 6-4: a LEVEL flag whose input is present stays set; an EDGE flag does not. -/
theorem test_clear_stop_flags :
    let s := { rig with slots := rig.slots.set 7 { rig.slot 7 with accepted := some ⟨⟨true, true, false, false⟩, .still⟩ } }
    let t := s.setStop 2 ⟨⟨true, true, true, false⟩, ⟨.level, .edge, .level, .level⟩, ⟨true, true, true, true⟩, true⟩
    reply (.clearStopFlags .a 1 3) t = some ⟨0xD0, 1, [0, 0x01]⟩ := by decide +kernel

theorem test_set_stop_config : reply (.setStopConfig .a 1 3 0x05 0x0F) rig = some ⟨0xD1, 1, [0, 0x05, 0x0F]⟩ ∧
    ((after (.setStopConfig .a 1 3 0x05 0x0E) rig).point 2).stop.masks = ⟨false, true, true, true⟩ := by decide +kernel

theorem test_mains_close :
    let s := rig.setStopUnit { rig.stopUnit with mains := .tripped }
    reply (.mainsClose .a 1) s = some ⟨0xD2, 1, [0, 0]⟩ ∧
    reply (.mainsClose .a 1) (s.setStop 2 { (s.point 2).stop with runaway := true }) = some ⟨0xD2, 1, [8, 15, 3]⟩ := by
  decide +kernel

theorem test_mains_open : (after (.mainsOpen .b 1) going).ports.b.tx.head? = some ⟨0xD3, 1, [0, 1]⟩ ∧
    (after (.mainsOpen .b 1) going).stopUnit.tripCause = .opened .b ∧
    ((after (.mainsOpen .b 1) going).group 2).fault = some ⟨.mains, none⟩ := by decide +kernel

theorem test_grid_hold_set : let t := after (.gridHoldSet .b 1) going
    t.stopUnit.hold = ⟨false, true, false⟩ ∧ (t.group 2).stopCause = some .hold ∧ noted t .a = [(.gridHold, .port .b, 1)] := by
  decide +kernel

theorem test_grid_hold_clear :
    let s := rig.setStopUnit { rig.stopUnit with hold := ⟨true, true, false⟩ }
    reply (.gridHoldClear .a 1 (some 2)) s = some ⟨0xD5, 1, [0, 1]⟩ ∧
    reply (.gridHoldClear .a 1 none) s = some ⟨0xD5, 1, [0, 2]⟩ := by decide +kernel

theorem test_stop_read :
    let s := { going with now := 70000, points := going.points.set 2 { going.point 2 with lastRun := some 3 } }
    reply (.stopRead .a 1 3) s = some ⟨0xD6, 1, [0, 0, 0, 0x0F, 0x10, 1, 0xFF, 0xFF]⟩ := by decide +kernel

theorem test_stop_status : reply (.stopStatus .a 1) rig = some ⟨0xD7, 1, [0, 0, 0, 0, 0, 0, 0, 0]⟩ := by decide +kernel

theorem test_cue_write : reply (.cueWrite .a 1 1 4 1 (-500) 1) (cued .both .rise) = some ⟨0xE0, 1, [0, 2]⟩ ∧
    (after (.cueWrite .a 1 1 4 1 (-500) 1) (cued .both .rise)).cue.list[1]? = some ⟨3, .moveBy, -500, true⟩ := by
  decide +kernel

theorem test_cue_clear : let t := after (.cueClear .a 1) (cued .both .rise)
    t.cue.list = [] ∧ t.cue.state = .off ∧ t.cue.owner = some .a := by decide +kernel

/-- A port whose link is DOWN loses the cues to the port that asks; one that is UP keeps them. -/
theorem test_cue_own :
    let s := fun q => rig.setCue { rig.cue with owner := some q }
    (after (.cueOwn .a 1) (s .c)).cue.owner = some .a ∧ reply (.cueOwn .a 1) (s .b) = some ⟨0xE2, 1, [5, 2]⟩ := by
  decide +kernel

theorem test_cue_disown : let t := after (.cueDisown .a 1) (cued .both .rise)
    t.cue.owner = none ∧ t.cue.state = .off ∧ t.cue.list.length = 1 := by decide +kernel

theorem test_cue_config : reply (.cueConfig .a 1 2 3) (cued .both .rise) = some ⟨0xE4, 1, [0, 2, 3]⟩ ∧
    reply (.cueConfig .a 1 3 3) (cued .both .rise) = some ⟨0xE4, 1, [3]⟩ := by decide +kernel

theorem test_cue_arm : reply (.cueArm .a 1 (some 1)) (cued .both .rise) = some ⟨0xE5, 1, [0, 4, 1]⟩ ∧
    reply (.cueArm .a 1 none) (cued .both .rise) = some ⟨0xE5, 1, [0, 1, 0]⟩ := by decide +kernel

theorem test_cue_off : (after (.cueOff .a 1) (cued .both .rise)).cue.state = .off := by decide +kernel

theorem test_cue_go : let t := after (.cueGo .a 1) (cued .console .rise)
    t.cue.state = .running ∧ (t.group 2).state = .moving ∧ t.cue.rearm = none ∧
    reply (.cueGo .a 1) (cued .line .rise) = some ⟨0xE7, 1, [8, 17, 0]⟩ := by decide +kernel

theorem test_cue_skip : let t := after (.cueSkip .a 1) (cued .both .rise)
    reply (.cueSkip .a 1) (cued .both .rise) = some ⟨0xE8, 1, [0, 4, 1]⟩ ∧ noted t .a = [(.cueEnd, .none, 1)] := by
  decide +kernel

theorem test_cue_read : reply (.cueRead .a 1 0 1) (cued .both .fall) = some ⟨0xE9, 1,
    [0, 1, 1, 2, 1, 1, 0, 1, 0, 0, 0xFF, 0, 0, 0, 3, 1, 0, 0x02, 0x58, 0]⟩ := by decide +kernel

theorem test_enable : let t := after (.enable .a 1 1) { rig with now := 50 }
    (t.port .a).enableWindow = some 250 ∧ (t.port .a).linkTimer = some 1050 ∧
    reply (.enable .a 1 0) rig = some ⟨0x82, 1, [0, 0]⟩ ∧ reply (.enable .a 1 2) rig = some ⟨0x82, 1, [3]⟩ := by
  decide +kernel

theorem test_port_status : reply (.portStatus .a 1) base = some ⟨0x81, 1,
    [0, 3, 1, 0, 1, 0, 0, 0, 0, 0, 0, 0x0C, 0x48, 1]⟩ := by decide +kernel

theorem test_notice_read :
    let s := base.setNotice .a ⟨[⟨.orphaned, .group 4, 1⟩, ⟨.overload, .point 8, 2⟩], false, 0, false⟩
    reply (.noticeRead .a 1) s = some ⟨0x83, 1, [0, 0, 0, 14, 3, 5, 1, 7, 1, 9, 2]⟩ ∧
    ((after (.noticeRead .a 1) s).notice .a).records = [] := by decide +kernel

theorem test_notice_mask : reply (.noticeMask .a 1 0xC00) base = some ⟨0x84, 1, [0, 0, 0, 0x0C, 0]⟩ ∧
    reply (.noticeMask .a 1 0x10000) base = some ⟨0x84, 1, [3]⟩ := by decide +kernel

theorem test_warn_config :
    let s := rig.setStopUnit { rig.stopUnit with hold := ⟨true, false, false⟩ }
    reply (.warnConfig .a 1 0x1F 1) s = some ⟨0x85, 1, [0, 0x1F, 1, 4, 1]⟩ ∧
    (after (.warnConfig .a 1 0x1F 1) s).warnLine = .low ∧ s.warnLine = .high := by decide +kernel

/-! ## States and operands that meet the hypotheses of each statement

One theorem for each statement that has hypotheses, clause by clause where clauses have hypotheses of their own. -/

theorem going_quiet : going.Quiet := quiet_of (by decide +kernel)

theorem rig_takes : rig.Takes .a := takes_of (by decide +kernel)

theorem going_takes : going.Takes .a := takes_of (by decide +kernel)

theorem rig_memberships : rig.MembershipSound := ⟨by decide +kernel, by decide +kernel, by decide +kernel⟩

theorem going_memberships : going.MembershipSound := ⟨by decide +kernel, by decide +kernel, by decide +kernel⟩

theorem going_bindings : going.BindingSound where
  slotPoint := by decide +kernel
  oneToOne := by decide +kernel
  sameIdentity := by decide +kernel
  slotIdentity := by decide +kernel
  distinct := by decide +kernel
  valid := fun p x h => by
    have k : ∀ p, (going.point p).identity ≠ some 0 ∧ (going.point p).identity ≠ some 0xFFFFFFFF := by decide +kernel
    exact ⟨fun e => (k p).1 (e ▸ h), fun e => (k p).2 (e ▸ h)⟩
  raw := by decide +kernel
  indications := by decide +kernel

/-! ### The machine, frames and requests -/

theorem witness_StepRunsTheFrontCommand :
    ({ base with pending := [.frame, .estopAssertion] } : State).pending = .frame :: [.estopAssertion] := rfl

theorem witness_EveryCommandAnswersAndKeepsTheQueue : State.reset.pending = [] := rfl

theorem witness_ResetAssertionAndRelease : (after .resetnAssert going).inReset = true ∧
    ∀ e v, Instr.frame ≠ .resetnRelease e v := ⟨by decide +kernel, fun _ _ h => by cases h⟩

/-- The longest SET_MEMBERS. -/
def longest : Instr := .setMembers .a 9 1 (List.replicate 24 48)

/-- Port A with n frames queued. -/
def queued (n : Nat) : State := rig.setPort .a { rig.port .a with tx := List.replicate n ⟨0x81, 1, []⟩ }

theorem witness_FieldsAndChecksAreCoded : base.inReset = false ∧ (base.port .a).tx = [] ∧
    ((queued 2).port .a).tx = ⟨0x81, 1, []⟩ :: [⟨0x81, 1, []⟩] := by decide +kernel

theorem witness_RequestFramesRoundTrip : longest.wellFormed = true ∧
    encodeRequest longest = some (0x30, 1 :: List.replicate 24 48) ∧ requestPort longest = some .a ∧
    requestTag longest = some 9 ∧ parseRequest .a 0x30 9 (1 :: List.replicate 24 48) = .request longest := by decide +kernel

theorem witness_ValidFrameRunsItsRequest : longest.wellFormed = true ∧
    encodeRequest longest = some (0x30, 1 :: List.replicate 24 48) ∧ requestPort longest = some .a ∧
    requestTag longest = some 9 ∧ rig.inReset = false := by decide +kernel

theorem witness_CharactersAssembleAFrame : (base.inReset = false ∧ (base.port .a).receiver = .hunting ∧
    (List.replicate 60 (0 : Byte)).length ≤ 60) ∧ base.Quiet := ⟨by decide +kernel, quiet_of (by decide +kernel)⟩

theorem witness_ReceiverAssemblesAbandonsAndCounts :
    (heard [0xA5]).inReset = false ∧ (heard [0xA5]).Quiet ∧
    -- HUNTING: a character that is no SYNC, a SYNC without its stop bit, a SYNC
    ((base.port .a).receiver = .hunting ∧ base.inReset = false ∧ ((0xA4 : Byte) ≠ 0xA5 ∨ true = false) ∧
      ((0xA5 : Byte) ≠ 0xA5 ∨ false = false)) ∧
    -- the LEN at its largest, the last character of a frame, a LEN too large, a lost stop bit
    (((heard [0xA5]).port .a).receiver = .inFrame [0xA5] ∧ (60 : Byte).toNat ≤ 60) ∧
    (((heard (0xA5 :: 0 :: [1, 2])).port .a).receiver = .inFrame (0xA5 :: 0 :: [1, 2]) ∧
      [1, 2].length + 3 < (0 : Byte).toNat + 6) ∧
    60 < (61 : Byte).toNat ∧
    -- the gap timer at its time, and a frame whose CRC differs
    (((heard [0xA5]).port .a).gapTimer = some 20 ∧ 20 ≤ ({ heard [0xA5] with now := 20 } : State).now) ∧
    ([] : List Byte).length ≤ 60 ∧ (0 : Word16) ≠ frameCrc 1 1 [] :=
  ⟨by decide +kernel, quiet_of (by decide +kernel), by decide +kernel, by decide +kernel, by decide +kernel,
    by decide +kernel, by decide +kernel, by decide +kernel, by decide +kernel⟩

theorem witness_RequestsAreAnsweredTurnedAwayAndSent :
    (queued 5).Takes .a ∧ permittedLengths 0x7F = none ∧
    (permittedLengths 0x30 = some (List.range' 1 25) ∧ (List.replicate 26 (0 : Byte)).length ∉ List.range' 1 25 ∧
      (List.replicate 26 (0 : Byte)).length ≤ 60) ∧
    (requestPort (.stop .a 1 1) = some .a ∧ (queued 6).inReset = false ∧ ((queued 6).port .a).link = .up ∧
      6 ≤ ((queued 6).port .a).tx.length) ∧ (queued 6).Quiet :=
  ⟨takes_of (by decide +kernel), by decide +kernel, by decide +kernel, by decide +kernel, quiet_of (by decide +kernel)⟩

/-- Port C is DOWN and holds G5, orphaned, with a notice waiting. -/
def orphaned : State :=
  (rig.setGroup 4 { rig.group 4 with holder := some .c, orphaned := true }).setNotice .c
    ⟨[⟨.orphaned, .group 4, 1⟩], false, 0, false⟩

theorem witness_LinkReturnPrecedesTheRequest : (requestPort (.portStatus .c 1) = some .c ∧ orphaned.inReset = false ∧
    (orphaned.port .c).link = .down ∧ (orphaned.port .c).tx.length < 6) ∧ orphaned.Quiet ∧
    (rig.notice .c).records = [] ∧ (orphaned.notice .c).records ≠ [] :=
  ⟨by decide +kernel, quiet_of (by decide +kernel), by decide +kernel, by decide +kernel⟩

theorem witness_LinkLossTearsDownThePort :
    let s := { going with now := 1000 }
    (s.inReset = false ∧ (s.port .a).linkTimer = some 1000 ∧ 1000 ≤ s.now ∧ (s.group 2).holder = some .a ∧
      (s.group 3).holder ≠ some .a ∧ (rig.group 2).holder = some .a ∧ (rig.group 2).state ≠ .moving) ∧ s.Quiet ∧
    -- no group of the port moves; G3 moves and a port is told that is neither the one lost nor the cue owner
    (∀ g, (rig.group g).holder = some .a → (rig.group g).state ≠ .moving) ∧ (Port.b ≠ .a ∧ s.cue.owner ≠ some .b) :=
  ⟨by decide +kernel, quiet_of (by decide +kernel), by decide +kernel, by decide +kernel⟩

theorem witness_EnableIsHeldAndLapses : going.Takes .a ∧ (going.port .a).enable = true ∧ going.Takes .b ∧
    (going.port .b).enable = false ∧ (2 : Byte) ≠ 0 ∧ (2 : Byte) ≠ 1 ∧
    (going.inReset = false ∧ (going.port .a).enableWindow = some 200 ∧ 200 ≤ ({ going with now := 200 } : State).now) ∧
    ((going.group 2).holder = some .a ∧ (going.group 2).state = .moving) ∧
    ¬ ((going.group 3).holder = some .a ∧ (going.group 3).state = .moving) :=
  ⟨going_takes, by decide +kernel, takes_of (by decide +kernel), by decide +kernel, by decide, by decide,
    by decide +kernel, by decide +kernel, by decide +kernel⟩

/-! ### Notices, the warning line and reads -/

theorem witness_NoticesAreRecordedAndPrompted :
    let held : NoticeSet := ⟨[⟨.estop, .none, 1⟩, ⟨.overload, .point 8, 255⟩, ⟨.overload, .point 9, 1⟩], false, 0x400, false⟩
    held.suppress.getLsbD (NoticeKind.code .dutyHot - 1) = true ∧
    (held.suppress.getLsbD (NoticeKind.code .overload - 1) = false ∧
      held.records = [⟨.estop, .none, 1⟩] ++ ⟨.overload, .point 8, 255⟩ :: [⟨.overload, .point 9, 1⟩] ∧
      ∀ r ∈ [(⟨.estop, .none, 1⟩ : NoticeRec)] ++ [⟨.overload, .point 9, 1⟩],
        ¬ (r.kind = .overload ∧ r.subject = .point 8)) ∧
    ∀ r ∈ held.records, ¬ (r.kind = .overload ∧ r.subject = .point 10) := by decide +kernel

theorem witness_NoticesAreReadAndMasked : (queued 5).Takes .a := takes_of (by decide +kernel)

theorem witness_WarnFollowsItsCauses : rig.Takes .a ∧ (31 : Byte).toNat < 32 ∧ polarityOf 1 = some .activeLow ∧
    (32 ≤ (32 : Byte).toNat ∨ 2 ≤ (0 : Byte).toNat) ∧ (32 ≤ (0 : Byte).toNat ∨ 2 ≤ (2 : Byte).toNat) ∧
    rig.inReset = false := ⟨rig_takes, by decide +kernel, by decide +kernel, by decide, by decide, by decide +kernel⟩

theorem witness_ReadsAnswerTheTables : going.Takes .a ∧ pointOf 48 = some 47 ∧ pointOf 0 = none ∧ pointOf 49 = none ∧
    groupOf 16 = some 15 ∧ groupOf 0 = none ∧ groupOf 17 = none := ⟨going_takes, by decide⟩

/-! ### The Point Directory and the Hoist Bus -/

/-- Slot 47 is FOREIGN with identity 0x77, and nothing moves. -/
def strange : State := rig.setSlot 47 { SlotRec.reset with state := .foreign, identity := some 0x77, presence := 4 }

theorem strange_bindings : strange.BindingSound where
  slotPoint := by decide +kernel
  oneToOne := by decide +kernel
  sameIdentity := by decide +kernel
  slotIdentity := by decide +kernel
  distinct := by decide +kernel
  valid := fun p x h => by
    have k : ∀ p, (strange.point p).identity ≠ some 0 ∧ (strange.point p).identity ≠ some 0xFFFFFFFF := by decide +kernel
    exact ⟨fun e => (k p).1 (e ▸ h), fun e => (k p).2 (e ▸ h)⟩
  raw := by decide +kernel
  indications := by decide +kernel

theorem witness_PatchPointChecksAndBinds :
    -- refusals: point 49, identity 0, limits 99 apart, an identity of P2, a point of a MOVING group
    (going.Takes .a ∧ pointOf 49 = none ∧ pointOf 1 = some 0 ∧ ((0 : Identity) = 0 ∨ (0 : Identity) = 0xFFFFFFFF) ∧
      (max (-1000) (min 66535 (0 : Word24).toInt) + 100 > max (-1000) (min 66535 (99 : Word24).toInt)) ∧
      ((1 : PointId) ≠ 0 ∧ (going.point 1).identity = some 0x12) ∧
      ((going.point 0).group = some 2 ∧ (going.group 2).state = .moving)) ∧
    -- accepted, with limits 100 apart: the point's own identity, and one that no point holds
    (strange.Takes .a ∧ strange.BindingSound ∧ pointOf 1 = some 0 ∧ (0x11 : Identity) ≠ 0 ∧ (0x11 : Identity) ≠ 0xFFFFFFFF ∧
      max (-1000) (min 66535 (0 : Word24).toInt) + 100 ≤ max (-1000) (min 66535 (100 : Word24).toInt) ∧
      (∀ p' : PointId, p' ≠ 0 → (strange.point p').identity ≠ some 0x11) ∧
      (∀ g, (strange.point 0).group = some g → (strange.group g).state ≠ .moving ∧ (strange.group g).state ≠ .stopping) ∧
      (strange.point 0).identity = some 0x11) ∧
    ((∀ p' : PointId, p' ≠ 0 → (strange.point p').identity ≠ some 0x77) ∧ (strange.point 0).identity ≠ some 0x77 ∧
      let u := (strange.setSlot 5 { strange.slot 5 with state := .foreign, point := none }).notifyAll .nodeForeign (.slot 5)
      (∀ k : SlotId, k < 47 → ¬ ((u.slot k).state = .foreign ∧ (u.slot k).identity = some 0x77)) ∧
      (u.slot 47).state = .foreign ∧ (u.slot 47).identity = some 0x77 ∧
      ∀ k, ¬ ((u.slot k).state = .foreign ∧ (u.slot k).identity = some 0x78)) :=
  ⟨⟨going_takes, by decide +kernel⟩, ⟨takes_of (by decide +kernel), strange_bindings, by decide +kernel⟩, by decide +kernel⟩

theorem witness_UnpatchFreesThePoint : going.Takes .a ∧ pointOf 0 = none ∧ pointOf 1 = some 0 ∧
    ((going.point 0).group = some 2 ∧ (going.group 2).state = .moving) ∧ rig.Takes .a ∧
    (∀ g, (rig.point 0).group = some g → (rig.group g).state ≠ .moving ∧ (rig.group g).state ≠ .stopping) ∧
    ((rig.point 0).identity ≠ none ∧ ((rig.point 0).boundSlot ≠ none ∨ (rig.point 0).raw = none)) ∧
    (pointOf 48 = some 47 ∧ (rig.point 47).identity = none ∧
      ∀ g, (rig.point 47).group = some g → (rig.group g).state ≠ .moving ∧ (rig.group g).state ≠ .stopping) :=
  ⟨going_takes, by decide, by decide, by decide +kernel, rig_takes, by decide +kernel, by decide +kernel, by decide +kernel⟩

theorem witness_BusConfigRestartsTheBus : going.Takes .a ∧ (epochOf 9 = none ∨ acceptModeOf 0 = none) ∧
    (epochOf 8 = none ∨ acceptModeOf 2 = none) ∧ (epochOf 16 = some .e16 ∧ acceptModeOf 1 = some .double) ∧
    (∃ g, (going.group g).state = .moving ∨ (going.group g).state = .stopping) ∧ rig.Takes .a ∧
    ∀ g, (rig.group g).state ≠ .moving ∧ (rig.group g).state ≠ .stopping :=
  ⟨going_takes, by decide, by decide, by decide, ⟨2, by decide +kernel⟩, rig_takes, by decide +kernel⟩

theorem witness_EffectiveCommandLaw : going.MembershipSound ∧ going.effective 5 = Dir.command .up :=
  ⟨going_memberships, by decide +kernel⟩

theorem witness_FrameSendsEffectiveCommands :
    (going.inReset = false ∧ going.service.active = none ∧ going.bus.framePos < going.bus.epoch.frames ∧
      (going.setBus { going.bus with framePos := 15 }).bus.framePos < (going.setBus { going.bus with framePos := 15 }).bus.epoch.frames) ∧
    going.Quiet ∧
    -- a job in each phase, at 63 frames and at 64, and with IDLE fields owed or not
    (let j := fun (ph : JobPhase) (n : Nat) => { job 5 .calRead (.port .b) (some 0) none with phase := ph, count := n }
     let s := fun (ph : JobPhase) (n : Nat) => going.setActive (some (j ph n))
     (∀ ph, (s ph 0).service.active = some (j ph 0)) ∧
     (((j .receiving 64).phase = .sending ∨ (j .receiving 64).phase = .receiving) ∧ 64 ≤ (j .receiving 64).count) ∧
     ¬ (((j .sending 63).phase = .sending ∨ (j .sending 63).phase = .receiving) ∧ 64 ≤ (j .sending 63).count) ∧
     (going.slot 5).idleOwed = 0 ∧
     ((((s .sending 0).setSlot 5 { going.slot 5 with idleOwed := 2 }).slot 5).idleOwed = 2) ∧
     ((j .sending 0).kind = .calRead ∧ (job 9 .ident .join none none).kind = .ident ∧
       (job 5 .calWrite (.port .b) (some 0) (some ⟨1641, 2000, 1000⟩)).write = some ⟨1641, 2000, 1000⟩)) :=
  ⟨by decide +kernel, going_quiet, fun _ => rfl, by decide +kernel, by decide +kernel, by decide +kernel,
    by decide +kernel, by decide +kernel⟩

/-- Slot 9 is EMPTY with n valid fields taken. -/
def appearing (n : Nat) : State := rig.setSlot 9 { SlotRec.reset with presence := n }

/-- Slot 5 is BOUND with n invalid fields taken. -/
def fading (n : Nat) : State := rig.setSlot 5 { rig.slot 5 with miss := n }

theorem witness_FieldsCountAndDeliverSamples :
    rig.inReset = false ∧ rig.Quiet ∧
    -- a slot that is JOINING and one that is FOREIGN; the slot of the active job
    (((rig.setSlot 9 { SlotRec.reset with state := .joining }).slot 9).state = .joining ∧
      ((rig.setSlot 9 { SlotRec.reset with state := .foreign }).slot 9).state = .foreign ∧
      (job 9 .ident .join none none).slot = 9) ∧
    (upValid (field 0 0 0 0 0 0xFF) = true ∧ upValid ⟨0, 0, 0, 0, 0, 0, 1⟩ = false) ∧
    -- an EMPTY slot at 2 and at 3, a BOUND slot at 6 and at 7
    (((appearing 2).slot 9).state = .empty ∧ ((appearing 2).slot 9).presence + 1 < 4 ∧
      4 ≤ ((appearing 3).slot 9).presence + 1) ∧
    (((fading 6).slot 5).state ≠ .empty ∧ ((fading 6).slot 5).miss + 1 < 8 ∧ 8 ≤ ((fading 7).slot 5).miss + 1) ∧
    -- a point in no group, its indication accepted
    ((rig.slot 7).state = .bound ∧ (rig.slot 7).point = some 2 ∧ (rig.point 2).group = none ∧
      upIndication (field 0 0 0 0 0 0xFF) ≠ none ∧ (rig.slot 7).accepted = upIndication (field 0 0 0 0 0 0xFF)) :=
  ⟨by decide +kernel, quiet_of (by decide +kernel), by decide +kernel, by decide +kernel, by decide +kernel,
    by decide +kernel, by decide +kernel⟩

/-- G3 moves, its slot 6 about to be lost, with a job active elsewhere. -/
def losing : State := (going.setSlot 6 { going.slot 6 with miss := 7 }).setActive (some (job 5 .calRead (.port .b) (some 0) none))

theorem losing_bindings : losing.BindingSound where
  slotPoint := by decide +kernel
  oneToOne := by decide +kernel
  sameIdentity := by decide +kernel
  slotIdentity := by decide +kernel
  distinct := by decide +kernel
  valid := going_bindings.valid
  raw := by decide +kernel
  indications := by decide +kernel

theorem witness_SlotLossEmptiesAndUnbinds :
    losing.Quiet ∧ losing.BindingSound ∧
    (losing.inReset = false ∧ (losing.slot 6).state ≠ .empty ∧ 8 ≤ (losing.slot 6).miss + 1 ∧
      (losing.slot 6).point = some 1 ∧ (losing.point 1).group = some 2 ∧ (losing.slot 6).point ≠ some 0 ∧
      losing.service.active ≠ none) ∧ (∀ j, losing.service.active = some j → j.slot ≠ 6) ∧
    (∀ p, ({ losing with groups := rig.groups } : State).pointActive p = false) ∧
    -- the slot's own job is active
    (let s := losing.setActive (some (job 6 .calRead (.port .b) (some 1) none))
     s.service.active = some (job 6 .calRead (.port .b) (some 1) none) ∧ (s.slot 6).point = some 1) :=
  ⟨quiet_of (by decide +kernel), losing_bindings, by decide +kernel,
    fun _ h => Option.some.inj h ▸ (by decide : (5 : SlotId) ≠ 6), by decide +kernel, by decide +kernel⟩

theorem witness_BoundFieldIsTakenApart : (going.inReset = false ∧ (going.slot 5).state = .bound ∧
    (going.slot 5).point = some 0 ∧ upValid (field 0x11 0 0 0 0 0xFF) = true ∧
    upIndication (field 0x11 0 0 0 0 0xFF) = some ⟨⟨true, false, false, false⟩, .up⟩) ∧ going.Quiet ∧ going.BindingSound :=
  ⟨by decide +kernel, going_quiet, going_bindings⟩

/-! ### Service jobs -/

theorem witness_ServiceJobsStartInOrder :
    let s := fun a l q => rig.setService ⟨a, l, q⟩
    let t := s none [] [⟨.b, 0, 4, none⟩, ⟨.b, 1, 6, none⟩]
    (rig.inReset = false ∧ (s (some (job 5 .ident .join none none)) [] []).service.active ≠ none ∧
      (s none [] []).service.active = none ∧ (s none [] []).service.joinList = [] ∧ (s none [] []).service.portQueue = []) ∧
    rig.Quiet ∧ (s none [⟨9, .full⟩, ⟨5, .calibration⟩] []).service.joinList = ⟨9, .full⟩ :: [⟨5, .calibration⟩] ∧
    (t.service.portQueue = [⟨.b, 0, 4, none⟩] ++ ⟨.b, 1, 6, none⟩ :: [] ∧
      (∀ x ∈ [(⟨.b, 0, 4, none⟩ : PortEntry)], (t.point x.point).boundSlot ≠ some x.slot) ∧
      (t.point 1).boundSlot = some 6) ∧
    -- two entries whose points hang on other slots
    (let u := s none [] [⟨.b, 0, 4, none⟩, ⟨.a, 1, 5, none⟩]
     u.service.active = none ∧ u.service.joinList = [] ∧
       ∀ x ∈ u.service.portQueue, (u.point x.point).boundSlot ≠ some x.slot) :=
  ⟨by decide +kernel, rig_takes.quiet, by decide +kernel, by decide +kernel, by decide +kernel⟩

theorem witness_ServiceBytesMoveOnPairsOrTimeOut :
    let j := fun ph i r n v => { job 5 .calRead (.port .b) (some 0) none with
      phase := ph, index := i, response := r, count := n, prev := v }
    let s := fun (k : Job) => rig.setService ⟨some k, [], []⟩
    -- an echo of byte 0, whatever its octet, and an ABORT
    ((j .sending 0 [] 1 (some (7, .phase0))).phase = .sending ∧ 0 < (j .sending 0 [] 1 none).count ∧
      Mark.phase0 = (if (j .sending 0 [] 1 none).index % 2 = 0 then .phase0 else .phase1) ∧
      (s (j .sending 0 [] 1 (some (7, .phase0)))).service.active = some (j .sending 0 [] 1 (some (7, .phase0)))) ∧
    ((j .sending 0 [] 1 (some (7, .fourth))).prev = some (7, .fourth) ∧ (j (.ending 1) 0 [] 0 none).phase = .ending 1) ∧
    -- the second byte of a response, the eighth, its END
    ((j .receiving 0 [0] 0 (some (0x1A, .phase1))).phase = .receiving ∧
      Mark.phase1 = (if [(0 : Byte)].length % 2 = 0 then .phase0 else .phase1) ∧ [(0 : Byte)].length < 7 ∧
      7 ≤ (List.replicate 7 (0 : Byte)).length ∧ (j .receiving 0 [0] 0 (some (0xFF, .fourth))).prev = some (0xFF, .fourth)) ∧
    -- 64 frames, and 63
    (64 ≤ (j .receiving 0 [0] 64 none).count ∧ (j .receiving 0 [0] 63 none).count < 64 ∧ rig.inReset = false) ∧
    rig.Quiet ∧
    -- a first sighting, a phase that is not expected, another slot, a byte not yet placed, an END with another octet
    ((j .sending 0 [] 1 none).prev = none ∧ (6 : SlotId) ≠ (j .sending 0 [] 1 none).slot ∧
      Mark.phase1 ≠ (if (j .sending 0 [] 1 none).index % 2 = 0 then .phase0 else .phase1) ∧
      (j .sending 1 [] 0 none).count = 0 ∧ (j (.aborting 1) 0 [] 0 none).phase = .aborting 1 ∧
      ((j .receiving 0 [0] 1 (some (0, .phase0))).prev = some (0, .phase0) ∧
        Mark.phase0 ≠ (if [(0 : Byte)].length % 2 = 0 then .phase0 else .phase1)) ∧
      ((j .receiving 0 [0] 1 (some (0xFE, .fourth))).prev = some (0xFE, .fourth) ∧ (0xFE : Byte) ≠ 0xFF) ∧
      rig.service.active = none) :=
  ⟨by decide +kernel, by decide +kernel, by decide +kernel, by decide +kernel, rig_takes.quiet, by decide +kernel⟩

theorem witness_JobsEndWithOneNotice :
    let read := job 5 .calRead (.port .b) (some 0) none
    let write := job 5 .calWrite (.port .b) (some 0) (some ⟨1641, 2000, 1000⟩)
    let s := fun (k : Job) => rig.setService ⟨some k, [], []⟩
    (rig.inReset = false ∧ (s read).service.active = some read ∧ (s write).service.active = some write ∧
      read.point = some 0 ∧ write.point = some 0 ∧ read.kind = .calRead ∧ write.kind = .calWrite) ∧
    (∃ q, write.origin = .port q) ∧
    -- every kind of failure, a point that has left the slot, and one that is bound still
    (JobEnd.fails 7 (.response [1]) = true ∧ JobEnd.fails 7 (.response [0, 1]) = true ∧ JobEnd.fails 7 .timeout = true ∧
      JobEnd.fails 7 .aborted = true ∧ JobEnd.fails 7 .lost = true) ∧
    ((job 4 .calRead (.port .b) (some 0) none).slot ≠ 5 ∧ ((s read).point 0).boundSlot ≠ some 4 ∧
      (List.replicate 6 (0 : Byte)).length < 7 ∧ (List.replicate 6 (0 : Byte)).length + 1 = ServiceKind.responseLength .calRead) ∧
    ((s read).point 0).boundSlot = some read.slot ∧ write.write = some ⟨1641, 2000, 1000⟩ ∧
    (read.discard = false ∧ { read with discard := true }.discard = true) :=
  ⟨by decide +kernel, ⟨.b, rfl⟩, by decide +kernel, by decide +kernel, by decide +kernel, by decide +kernel,
    by decide +kernel⟩

theorem witness_IdentBindsOrLeavesForeign :
    let j := job 9 .ident .join none none
    let s := (rig.setSlot 9 { SlotRec.reset with state := .joining, presence := 4 }).setService ⟨some j, [], []⟩
    let u := s.setPoint 9 { PointRec.reset with identity := some 0x1A200104 }
    (s.inReset = false ∧ s.service.active = some j ∧ j.kind = .ident ∧ j.origin = .join ∧ (s.slot j.slot).state = .joining) ∧
    (word4 0 0 0 0 = 0 ∧ word4 0xFF 0xFF 0xFF 0xFF = 0xFFFFFFFF ∧ word4 0x1A 0x20 0x01 0x04 = 0x1A200104) ∧
    (∀ p, (s.point p).identity ≠ some 0x1A200104) ∧
    ((∀ p', (s.point p').identity = some 0x11 ↔ p' = 0) ∧ (s.point 0).boundSlot ≠ none) ∧
    ((∀ p', (u.point p').identity = some 0x1A200104 ↔ p' = 9) ∧ (u.point 9).boundSlot = none) ∧
    JobEnd.fails 5 .timeout = true := by decide +kernel

/-! ### Load measurement -/

theorem witness_LoadIsTheNearestKilogram : (∃ r ∈ [(1640 : Code), 4095], r = 4095) ∧
    ∀ r ∈ [(1640 : Code), 4094], r ≠ 4095 := by decide

theorem witness_LoadArrivalsUpdateAndAlarm :
    let s := rig.setLoad 0 { (rig.point 0).load with high := 599, low := 601 }
    (s.point 0).load.value = .kg 600 ∧ (((s.point 0).load.high : Int) < 600 ∧ (s.point 0).load.overload.active = false) ∧
    ((600 : Int) < (s.point 0).load.low ∧ (s.point 0).load.low ≠ 0 ∧ (s.point 0).load.underload.active = false) ∧
    -- a value of OVER; both conditions ACTIVE in CROSS, past their exits, and within them
    (let l := fun (v : Load) (high low : Nat) => { (rig.point 0).load with
       value := v, high := high, low := low, alarm := .cross, overload := ⟨true, false⟩, underload := ⟨true, false⟩ }
     (l .over 1000 0).value = .over ∧
     ((l (.kg 600) 620 580).value = .kg 600 ∧ (600 : Int) ≤ (620 : Nat) - ((l (.kg 600) 620 580).hyst : Int) ∧
       ((580 : Nat) : Int) + ((l (.kg 600) 620 580).hyst : Int) ≤ 600) ∧
     (¬ (600 : Int) ≤ (619 : Nat) - ((l (.kg 600) 619 581).hyst : Int) ∧
       ¬ ((581 : Nat) : Int) + ((l (.kg 600) 619 581).hyst : Int) ≤ 600)) ∧
    -- INACTIVE, at the entry levels, and below 0 with low_kg 0
    (let l := fun (v : Int) (high low : Nat) => { (rig.point 0).load with value := .kg v, high := high, low := low }
     ((l 600 600 600).overload.active = false ∧ (l 600 600 600).underload.active = false ∧
       (l 600 600 600).value = .kg 600 ∧ (600 : Int) ≤ ((l 600 600 600).high : Int) ∧
       ((l 600 600 600).low : Int) ≤ 600) ∧ (l (-1) 600 0).low = 0) := by decide +kernel

theorem witness_CalibrationRequestsAreQueued :
    let inRange := fun (zero span wll : Word16) =>
      zero.toNat ≤ 4095 ∧ 100 ≤ span.toNat ∧ span.toNat ≤ 20000 ∧ 50 ≤ wll.toNat ∧ wll.toNat ≤ 20000
    rig.Takes .a ∧ going.Takes .a ∧ (pointOf 0 = none ∧ inRange 4095 20000 20000 ∧ inRange 0 100 50 ∧
      ¬ inRange 4096 100 50 ∧ ¬ inRange 0 99 50 ∧ ¬ inRange 0 100 49) ∧
    -- a moving point, one that hangs on no slot, one that does
    (pointOf 1 = some 0 ∧ (going.point 0).group = some 2 ∧ (going.group 2).state = .moving) ∧
    (pointOf 4 = some 3 ∧ (rig.point 3).group = none ∧ (rig.point 3).boundSlot = none) ∧
    (pointOf 3 = some 2 ∧ (rig.point 2).group = none ∧ (rig.point 2).boundSlot = some 7) ∧
    -- its calibration absent, its window bad and good
    (((rig.setLoad 2 { (rig.point 2).load with cal := none }).point 2).load.cal = none ∧ (rig.point 2).load.cal ≠ none ∧
      ¬ ((rig.setLoad 2 { (rig.point 2).load with window := [1] }).point 2).load.window.length = 8 ∧
      (rig.point 2).load.window.length = 8 ∧ ∀ r ∈ (rig.point 2).load.window, r ≠ 4095) ∧
    -- the queue full for the port, full for all, and with room
    (2 ≤ ([(⟨.a, 0, 5, none⟩ : PortEntry), ⟨.a, 1, 6, none⟩].filter fun e => e.port == .a).length ∧
      6 ≤ (List.replicate 6 (⟨.b, 0, 5, none⟩ : PortEntry)).length ∧
      ¬ (2 ≤ (rig.service.portQueue.filter fun e => e.port == .a).length ∨ 6 ≤ rig.service.portQueue.length)) :=
  ⟨rig_takes, going_takes, by decide +kernel, by decide +kernel, by decide +kernel, by decide +kernel, by decide +kernel,
    by decide +kernel⟩

theorem witness_LoadSettingsAreReevaluated : rig.Takes .a ∧ pointOf 49 = none ∧ pointOf 48 = some 47 ∧
    3 ≤ (3 : Byte).toNat ∧ alarmModeOf 2 = some .cross ∧ alarmModeOf 0 = some .compare ∧
    (rig.point 47).load.value = .absent ∧ AlarmMode.compare ≠ .cross :=
  ⟨rig_takes, by decide, by decide, by decide, by decide, by decide, by decide +kernel, by decide⟩

/-! ### Groups, claims and moves -/

theorem witness_MembersAndBandsAreReplaced :
    rig.Takes .a ∧ rig.Takes .b ∧ (List.replicate 24 (1 : Byte)).length ≤ 24 ∧
    (groupOf 0 = none ∧ (∃ x ∈ [(49 : Byte)], pointOf x = none) ∧ ¬ [(1 : Byte), 1].Nodup) ∧
    (groupOf 3 = some 2 ∧ [(2 : Byte), 3] = [(1 : PointId), 2].map pointByte ∧ [(1 : PointId), 2].Nodup) ∧
    ((rig.group 2).holder ≠ some .b ∧ (rig.group 2).holder = some .a ∧ (rig.group 2).state = .idle ∧
      (going.group 2).state ≠ .idle) ∧
    -- for G4, held by A, P2 is the first point in use; for G3 nothing is
    ((∀ x ∈ [(2 : PointId)], ∀ k, (rig.point x).group = some k → k = 3) ∧ (rig.point 1).group = some 2 ∧ (2 : GroupId) ≠ 3) ∧
    (∀ x ∈ [(1 : PointId), 2], ∀ k, (rig.point x).group = some k → k = 2) ∧ going.Takes .a :=
  ⟨rig_takes, takes_of (by decide +kernel), by decide, by decide +kernel, by decide +kernel, by decide +kernel,
    by decide +kernel, by decide +kernel, going_takes⟩

theorem witness_ClaimsReleasesAndTakeovers : rig.Takes .a ∧ groupOf 17 = none ∧ groupOf 16 = some 15 ∧
    (rig.group 15).holder = none ∧ (rig.group 2).holder = some .a ∧
    ((rig.setGroup 15 { rig.group 15 with holder := some .c, orphaned := true }).group 15).holder = some .c ∧
    Port.c ≠ .a := ⟨rig_takes, by decide +kernel⟩

/-- G3 with one property of P2 changed. -/
def spoilt (f : PointRec → PointRec) : State := rig.setPoint 1 (f (rig.point 1))

theorem rig_no_flags (p : PointId) (k : StopKind) : (rig.point p).stop.flags.get k = false := by
  rw [(by decide +kernel : ∀ p, (rig.point p).stop.flags = clear) p]; cases k <;> rfl

theorem witness_StartChecksRunInOrder :
    let loaded := fun (f : LoadPart → LoadPart) => spoilt fun r => { r with load := f r.load }
    let sound := fun (s : State) (p : PointId) =>
      (s.point p).boundSlot ≠ none ∧ (s.point p).raw ≠ none ∧ (s.point p).load.value ≠ .absent
    rig.GateOpen .a 2 ∧ (∀ m ∈ (rig.group 2).members, rig.MemberReady (some .down) m.point) ∧
    (rig.startCheck (some .a) 2 (.dist 5) = none ∧ rig.startCheck (some .b) 2 (.dist 5) = some .notHolder) ∧
    ¬ rig.GateOpen .b 2 ∧ ((rig.group 2).members = [resting 0] ++ resting 1 :: [] ∧ sound rig 0 ∧ sound rig 1) ∧
    -- each check that P2 is the first to fail
    (((spoilt fun r => { r with boundSlot := none }).point 1).boundSlot = none ∧
      ((spoilt fun r => { r with raw := none }).point 1).raw = none ∧
      ((loaded fun l => { l with value := .absent }).point 1).load.value = .absent ∧
      ((loaded fun l => { l with overload := ⟨true, false⟩ }).point 1).load.overload.active = true ∧
      ((loaded fun l => { l with overload := ⟨true, false⟩ }).point 0).load.overload.active = false ∧
      rig.startDir 2 (.dist (-5)) = some .down ∧
      ((loaded fun l => { l with underload := ⟨true, false⟩ }).point 1).load.underload.active = true ∧
      ((loaded fun l => { l with underload := ⟨true, false⟩ }).point 0).load.underload.active = false ∧
      ((spoilt fun r => { r with stop := { r.stop with runaway := true } }).point 1).stop.runaway = true ∧
      ((loaded fun l => { l with dutyHot := true }).point 1).load.dutyHot = true) :=
  ⟨⟨by decide +kernel, by decide +kernel, by decide +kernel, by decide +kernel, by decide +kernel, by decide +kernel,
      by decide +kernel⟩,
    fun m hm => by
      have k : ∀ m ∈ (rig.group 2).members, m.point = 0 ∨ m.point = 1 := by decide +kernel
      rcases k m hm with e | e <;> rw [e] <;> exact ⟨by decide +kernel, by decide +kernel, by decide +kernel,
        by decide +kernel, fun _ => by decide +kernel, fun _ _ k hf => absurd hf (by simp [rig_no_flags]),
        by decide +kernel, by decide +kernel⟩,
    by decide +kernel, fun h => absurd h.holder (by decide +kernel), by decide +kernel, by decide +kernel⟩

theorem witness_TravelIsLimitedToTheSoftLimits : ((9000 : Int) ≠ 0 ∧ (rig.group 2).members ≠ [] ∧
    (∀ m ∈ (rig.group 2).members, rig.pos m.point ≠ none) ∧ rig.clampTravel 2 9000 = 4996 ∧
    rig.clampTravel 2 (-9000) = -3000 ∧ (0 < (9000 : Int) → (4996 : Int) < 4997 ∧ (4997 : Int) ≤ 9000)) ∧
    rig.TargetsFit 2 4996 :=
  ⟨by decide +kernel, by
    intro m hm x hx
    have k : ∀ m ∈ (rig.group 2).members, ((rig.pos m.point).getD 0 + 4996 ≤ (rig.point m.point).softMax ∧
      (rig.point m.point).softMin ≤ (rig.pos m.point).getD 0 + 4996) := by decide +kernel
    have := k m hm; rw [hx] at this; exact ⟨this.2, this.1⟩⟩

theorem rig_startable (d : Option Dir) : rig.Startable .a 2 d where
  gate := witness_StartChecksRunInOrder.1
  ready := fun m hm =>
    let r := witness_StartChecksRunInOrder.2.1 m hm
    { r with underload := fun _ => r.underload rfl
             stops := fun _ _ k hf => absurd hf (by simp [rig_no_flags]) }

theorem witness_MovesStart :
    rig.Takes .a ∧ (groupOf 3 = some 2 ∧ groupOf 0 = none) ∧
    -- the ends of the arguments
    ((-67535 : Word24).toInt = -67535 ∧ (67535 : Word24).toInt = 67535 ∧ 67535 < (67536 : Word24).toInt ∧
      (-67536 : Word24).toInt < -67535 ∧ (-1000 : Word24).toInt = -1000 ∧ (66535 : Word24).toInt = 66535 ∧
      66535 < (66536 : Word24).toInt ∧ (-1001 : Word24).toInt < -1000 ∧ 2 ≤ (2 : Byte).toNat) ∧
    -- a check that fails, and all that pass
    (going.startCheck (some .a) 2 (.dist 5) = some .busy ∧ going.startCheck (some .a) 2 (.height 5) = some .busy ∧
      going.startCheck (some .a) 2 (.jog .up) = some .busy) ∧
    rig.Startable .a 2 (dirOf 67535) ∧ ((rig.group 2).members = resting 0 :: [resting 1] ∧ rig.pos 0 = some 3000) ∧
    rig.Startable .a 2 (some .down) ∧ jogDirOf 1 = some .down ∧ jogDirOf 0 = some .up ∧
    -- no member beyond its limit, and P2 the first to stand at it
    (∀ m ∈ (rig.group 2).members, ∀ y, rig.pos m.point = some y → ¬ y ≤ (rig.point m.point).softMin) ∧
    ((spoilt fun r => { r with raw := some 8000 }).pos 1 = some 8000 ∧
      ((spoilt fun r => { r with raw := some 8000 }).point 1).softMax ≤ 8000) :=
  ⟨rig_takes, by decide, by decide +kernel, by decide +kernel, rig_startable _, by decide +kernel, rig_startable _,
    by decide, by decide, by
      intro m hm y hy
      have k : ∀ m ∈ (rig.group 2).members, ¬ (rig.pos m.point).getD 0 ≤ (rig.point m.point).softMin := by decide +kernel
      have := k m hm; rw [hy] at this; exact this, by decide +kernel⟩

theorem witness_StopsHaltAndEnd :
    let s := { going with slots := rig.slots }
    (rig.group 2).state ≠ .moving ∧ (going.group 2).state = .moving ∧ ¬ going.AllStill 2 ∧
    ((s.group 2).state = .moving ∧ s.AllStill 2) ∧ groupOf 0 = none ∧ groupOf 3 = some 2 ∧ going.Takes .b :=
  ⟨by decide +kernel, by decide +kernel, by decide +kernel, by decide +kernel, by decide, by decide,
    takes_of (by decide +kernel)⟩

theorem witness_FaultsStandUntilAcknowledged :
    ((rig.group 2).state ≠ .moving ∧ (rig.group 2).state ≠ .stopping ∧ (going.group 2).state = .moving) ∧
    rig.Takes .a ∧ (groupOf 0 = none ∧ groupOf 3 = some 2 ∧ pointOf 0 = none ∧ pointOf 1 = some 0) ∧
    ((going.point 0).group = some 2 ∧ (going.group 2).state = .moving) ∧ going.Takes .a ∧
    ∀ g, (rig.point 0).group = some g → (rig.group g).state ≠ .moving ∧ (rig.group g).state ≠ .stopping :=
  ⟨by decide +kernel, rig_takes, by decide, by decide +kernel, going_takes, by decide +kernel⟩

theorem witness_TimersSharesAndSensesAreSupervised :
    let m : Member := ⟨0, .run, some 3000, some 5000, some 600, none, false, some 400, 0⟩
    let s := fun (f : Member → Member) => going.setGroup 2 { going.group 2 with members := [f m] }
    (going.inReset = false ∧ (going.point 0).group = some 2 ∧ (going.group 2).member 0 = some m ∧ m.runTimer = some 400 ∧
      400 ≤ ({ going with now := 400 } : State).now ∧ going.now < 400) ∧ going.Quiet ∧
    -- at rest; supervised and settling; settled, with a load that is absent, OVER, or a number
    ((rig.point 0).group = some 2 ∧ (rig.group 2).member 0 = some (resting 0) ∧ (rig.group 2).state ≠ .moving) ∧
    ((going.group 2).state = .moving ∧ m.state = .run ∧ m.settle < 3) ∧
    (((s fun m => { m with settle := 3 }).group 2).member 0 = some { m with settle := 3 } ∧
      (going.point 0).load.value = .kg 600 ∧ m.baseline = some 600 ∧
      ((going.setLoad 0 { (going.point 0).load with value := .over }).point 0).load.value = .over) ∧
    -- a COAST member, and a HALT member of a STOPPING group
    (((s fun m => { m with state := .coast }).group 2).member 0 = some { m with state := .coast } ∧
      (((after (.stop .a 1 3) going).group 2).state = .stopping ∧
        ((after (.stop .a 1 3) going).group 2).member 0 = some { m with state := .halt, runTimer := none })) ∧
    (Sense.up = (going.group 2).dir.sense ∧ Sense.down ≠ .still ∧ Sense.down ≠ (going.group 2).dir.sense) :=
  ⟨by decide +kernel, going_quiet, by decide +kernel, by decide +kernel, by decide +kernel, by decide +kernel,
    by decide +kernel⟩

theorem witness_LeadsTripPauseAndResume :
    let s := fun (x : Word16) => going.setPoint 1 { going.point 1 with raw := some x }
    let progress := fun (s : State) (m : Member) =>
      ((s.pos m.point).getD 0 - m.startPos.getD 0) * (s.group 2).dir.sign
    let travels := fun (m : Member) => m.state = .run ∨ m.state = .pause
    let u := going.setGroup 2 { going.group 2 with members := (going.group 2).members ++ [{ resting 2 with state := .done }] }
    (going.group 2).state = .moving ∧
    (∀ m ∈ (going.group 2).members, travels m → (s 3064).pos m.point ≠ none ∧ m.startPos ≠ none) ∧
    (∃ m ∈ (going.group 2).members, travels m ∧ progress (s 3064) m = 0) ∧
    (∀ m ∈ (going.group 2).members, travels m → 0 ≤ progress (s 3064) m) ∧
    -- P2 leads by the trip band of 60, and by 59; P3 is a member that does not travel
    ((going.group 2).bands.trip = 60 ∧ (∀ m ∈ (going.group 2).members, m.point = 1 → progress (s 3064) m = 60) ∧
      (∀ m ∈ (going.group 2).members, travels m → progress (s 3063) m - 0 < ((going.group 2).bands.trip : Int)) ∧
      -- P2 is a reporter that travels; P4 is in no group
      ((going.point 1).group = some 2 ∧
        ((going.group 2).member 1).map Member.state = some .run ∧ (going.point 3).group = none) ∧
      (going.point 0).group = some 2 ∧ 0 < (going.group 2).bands.pause) ∧
    (u.group 2).member 2 = some { resting 2 with state := .done } ∧
    -- G3 with every member in COAST
    (let w := going.setGroup 2 ((going.group 2).updAll fun m => { m with state := .coast })
     (w.point 0).group = some 2 ∧ (w.group 2).state = .moving ∧
       ∀ m ∈ (w.group 2).members, m.state ≠ .run ∧ m.state ≠ .pause) := by decide +kernel

theorem witness_MembersArriveAndAreLearnt :
    let m : Member := ⟨0, .coast, some 3000, some 5000, some 600, some 4982, true, none, 4⟩
    let s := going.setPoint 0 { going.point 0 with raw := some 5000, stopLead := 250 }
    (s.pos m.point = some 5000 ∧ m.target = some 5000 ∧ m.releasePos = some 4982 ∧ (s.point 0).stopLead ≤ 250) := by
  decide +kernel

/-! ### Stop inputs, mains and cues -/

theorem witness_StopFlagsAreClearedAndConfigured : rig.Takes .a ∧ going.Takes .a ∧
    (pointOf 0 = none ∧ 16 ≤ (16 : Byte).toNat ∧ pointOf 1 = some 0 ∧ modesOf 15 = some ⟨.edge, .edge, .edge, .edge⟩ ∧
      masksOf 15 = some ⟨true, true, true, true⟩) ∧
    (∃ g, (going.point 0).group = some g ∧ ((going.group g).state = .moving ∨ (going.group g).state = .stopping)) ∧
    (∀ g, (rig.point 0).group = some g → (rig.group g).state ≠ .moving ∧ (rig.group g).state ≠ .stopping) ∧
    -- UPPER, present and clear, of a point of a group that moves up with the mask enabled; LOWER there; a point in no group
    ((going.point 0).stop.modes.get .upper = .level ∧ (going.point 0).stop.flags.get .upper = false ∧
      (going.point 0).group = some 2 ∧ (going.group 2).state = .moving ∧ (going.point 0).stop.masks.get .upper = true ∧
      (going.group 2).dir = .up ∧ (going.point 2).group = none) :=
  ⟨rig_takes, going_takes, by decide +kernel, ⟨2, by decide +kernel⟩, by decide +kernel, by decide +kernel⟩

theorem witness_MainsTripsClosesAndRunsAway :
    let s := fun b => rig.setStopUnit ⟨b, .tripped, .reset, ⟨false, false, false⟩⟩
    (rig.inReset = false ∧ rig.mainsLine = true ∧ (s false).mainsLine = false) ∧
    let r := fun (f : Bool) (t : Option Nat) =>
      going.setPoint 2 { going.point 2 with stop := { (going.point 2).stop with runaway := f }, lastRun := t }
    ((s true).stopUnit.mains = .tripped ∧ going.stopUnit.mains = .closed ∧
      ∀ g, (rig.group g).state ≠ .moving ∧ (rig.group g).state ≠ .stopping) ∧
    rig.Takes .a ∧ ((s true).stopUnit.estop = true ∧ (s false).stopUnit.estop = false ∧
      ∀ p, ((s false).point p).stop.runaway = false) ∧
    (((r true none).point 2).stop.runaway = true ∧ (∀ k : PointId, k < 2 → ((r true none).point k).stop.runaway = false) ∧
      (r true none).stopUnit.estop = false) ∧ going.Quiet ∧
    -- the allowance at 1500 ms and at 1499 ms
    (((r false (some 0)).point 2).lastRun = some 0 ∧ 0 + 1500 ≤ ({ r false (some 0) with now := 1500 } : State).now ∧
      ((r false (some 0)).point 2).boundSlot ≠ none ∧ (r false (some 0)).sense 2 = some .up ∧
      ((r false (some 0)).point 2).stop.runaway = false ∧ ({ r false (some 0) with now := 1499 } : State).now < 0 + 1500) :=
  ⟨by decide +kernel, by decide +kernel, rig_takes, by decide +kernel, by decide +kernel, going_quiet, by decide +kernel⟩

theorem witness_GridHoldsStopTheRig : going.Takes .a ∧ portOf 0 = none ∧ portOf 4 = none ∧ portOf 3 = some .c :=
  ⟨going_takes, by decide⟩

theorem witness_CueListAndEngineAreEdited : (cued .both .rise).Takes .a ∧ (cued .both .rise).Takes .b ∧
    (cued .both .rise).cue.owner = some .a ∧ (cued .both .rise).cue.owner ≠ some .b ∧
    -- READY with an entry to skip to, and without; OFF
    ((cued .both .rise).cue.state = .ready ∧ (cued .both .rise).cue.pointer < (cued .both .rise).cue.list.length ∧
      (cued .both .rise).cue.list.length ≤ (cued .both .rise).cue.pointer + 1 ∧
      (after (.cueWrite .a 1 1 4 1 0 0) (cued .both .rise)).cue.pointer + 1 <
        (after (.cueWrite .a 1 1 4 1 0 0) (cued .both .rise)).cue.list.length ∧
      rig.cue.state ≠ .ready ∧ rig.cue.state ≠ .stalled) :=
  ⟨takes_of (by decide +kernel), takes_of (by decide +kernel), by decide +kernel, by decide +kernel, by decide +kernel⟩

/-- The engine fires for G3: a MOVE_BY that starts, one of 0 that ends at once, and a STOP entry, each followed or not. -/
def firing (a : CueAction) (v : Int) (f : Bool) : State := rig.setCue { rig.cue with
  list := [⟨2, a, v, f⟩, ⟨2, .moveBy, 0, false⟩], state := .ready, owner := some .a }

theorem witness_CuesFireAndReport :
    let e := fun (a : CueAction) (v : Int) => (⟨2, a, v, true⟩ : CueEntry)
    let s := fun (v : Int) => rig.setCue { rig.cue with
      list := [e .moveBy 5, ⟨2, .moveBy, v, false⟩], pointer := 1, state := .running, owner := some .a
      firedGroup := some 2, firedIndex := some 0 }
    ((firing .moveBy 600 true).cue.list[(firing .moveBy 600 true).cue.pointer]? = some (e .moveBy 600) ∧
      (e .stop 0).action = .stop ∧ (e .moveTo 9).action = .moveTo) ∧
    (((firing .moveBy 600 true).start (some .a) .cue 2 (.dist 600)).2 = .moving ∧
      ((firing .moveBy 600 true).start (some .a) .cue 2 (.dist 0)).2 = .atOnce ∧
      ((firing .moveBy 600 true).start (some .b) .cue 2 (.dist 600)).2 = .refused .notHolder) ∧
    -- RUNNING for G3 with a follow to fire, which ends at once, and one that moves
    (((s 0).cue.state = .running ∧ (s 0).cue.firedGroup = some 2 ∧ (s 0).cue.pointer < (s 0).cue.list.length ∧
        ((s 0).cue.firedIndex.bind fun k => (s 0).cue.list[k]?).map CueEntry.follow = some true) ∧
      ((s 0).setCue { (s 0).cue with firedGroup := none }).fireEntry.2 = .atOnce ∧
      ((s 0).setCue { (s 0).cue with firedGroup := none }).fireEntry.1.cue.firedGroup = some 2 ∧
      ((s 600).setCue { (s 600).cue with firedGroup := none }).fireEntry.2 ≠ .atOnce) ∧
    ¬ ((firing .moveBy 600 true).cue.state = .running ∧ (firing .moveBy 600 true).cue.firedGroup = some 2) := by
  decide +kernel

theorem witness_GosActByStateAndSource :
    let s := fun (src : GoSource) (v : CueState) (k : Nat) =>
      (cued src .high).setCue { (cued src .high).cue with state := v, pointer := k }
    let t := { cued .both .high with now := 250 }
    (s .line .ready 0).Takes .a ∧ ((s .line .ready 0).cue.owner = some .a ∧ (s .line .ready 0).cue.source = .line) ∧
    (s .both .off 0).Takes .a ∧ ((s .both .off 0).cue.source ≠ .line ∧ (s .both .off 0).cue.state = .off ∧
      (s .both .running 0).cue.state = .running ∧ (s .both .ready 0).cue.state = .ready ∧ (s .both .ready 0).fire.2 = .fired ∧
      ((s .both .ready 0).setGroup 2 { rig.group 2 with holder := none }).fire.2 = .refused ∧
      ((s .both .stalled 1).cue.state = .stalled ∧ (s .both .stalled 1).cue.list.length ≤ (s .both .stalled 1).cue.pointer)) ∧
    -- a rise of the line, and an expiry with the line high
    ((cued .both .high).inReset = false ∧ Level.high ≠ (cued .both .high).cue.level ∧ (cued .both .high).cue.source ≠ .console ∧
      (cued .both .high).cue.rearm = none ∧ (cued .both .high).cue.mode = .high) ∧ (cued .both .high).Quiet ∧
    ((t.setCue { t.cue with level := .high, rearm := some 250 }).cue.rearm = some 250 ∧ 250 ≤ t.now ∧
      (cued .both .high).now < 250) :=
  ⟨takes_of (by decide +kernel), by decide +kernel, takes_of (by decide +kernel), by decide +kernel, by decide +kernel,
    quiet_of (by decide +kernel), by decide +kernel⟩

/-! ### The laws of the device: they hold where G3 moves and a frame waits -/

def busy : State := { going with pending := [.frame] }

theorem busy_steps : step busy = .next (after .frame going) := rfl

theorem witness_EveryStepKeepsPortsSound : busy.PortsSound where
  queue := ports_of (by decide +kernel) (by decide +kernel) (by decide +kernel)
  errors := ports_of (by decide +kernel) (by decide +kernel) (by decide +kernel)
  overruns := ports_of (by decide +kernel) (by decide +kernel) (by decide +kernel)
  gapTimer := ports_of (by decide +kernel) (by decide +kernel) (by decide +kernel)
  linkTimer := ports_of (by decide +kernel) (by decide +kernel) (by decide +kernel)
  window := ports_of (by decide +kernel) (by decide +kernel) (by decide +kernel)
  enableUp := ports_of (by decide +kernel) (by decide +kernel) (by decide +kernel)
  downIdle := ports_of (by decide +kernel) (by decide +kernel) (by decide +kernel)

theorem witness_EveryStepKeepsNoticesSound : busy.NoticesSound where
  size := ports_of (by decide +kernel) (by decide +kernel) (by decide +kernel)
  distinct := ports_of (by decide +kernel) (by decide +kernel) (by decide +kernel)
  counts := ports_of (by decide +kernel) (by decide +kernel) (by decide +kernel)
  suppress := ports_of (by decide +kernel) (by decide +kernel) (by decide +kernel)
  quiet := going_quiet

theorem witness_EveryStepKeepsBindingSound : busy.BindingSound ∧ busy.CountersSound :=
  ⟨⟨going_bindings.slotPoint, going_bindings.oneToOne, going_bindings.sameIdentity, going_bindings.slotIdentity,
      going_bindings.distinct, going_bindings.valid, going_bindings.raw, going_bindings.indications⟩,
    ⟨by decide +kernel, by decide +kernel, by decide +kernel⟩⟩

theorem witness_EveryStepKeepsMembershipSound : busy.MembershipSound :=
  ⟨going_memberships.size, going_memberships.distinct, going_memberships.inStep⟩

theorem witness_EveryStepKeepsPowerSound : busy.PowerSound := ⟨by decide +kernel, by decide +kernel, by decide +kernel⟩

theorem witness_EveryStepKeepsDriveSound : busy.DriveSound where
  moving := fun g h => by
    have k : ∀ g, (busy.group g).state = .moving → (busy.group g).holder = some .a := by decide +kernel
    exact ⟨.a, k g h, by decide +kernel⟩
  stopping := by decide +kernel
  orphaned := by decide +kernel
  enableUp := ports_of (by decide +kernel) (by decide +kernel) (by decide +kernel)

theorem witness_EveryStepKeepsCueSound : busy.CueSound ∧ (cued .both .rise).CueSound :=
  ⟨⟨by decide +kernel, by decide +kernel, by decide +kernel, by decide +kernel⟩,
    ⟨by decide +kernel, by decide +kernel, by decide +kernel, by decide +kernel⟩⟩

theorem witness_EveryStepKeepsTargetsSound : busy.MembershipSound ∧ busy.TargetsSound :=
  ⟨witness_EveryStepKeepsMembershipSound, fun g h _ m hm => by
    have k : ∀ g, (busy.group g).state = .moving → ∀ m ∈ (busy.group g).members, m.target = some (m.target.getD 0) ∧
      (busy.point m.point).softMin ≤ m.target.getD 0 ∧ m.target.getD 0 ≤ (busy.point m.point).softMax := by decide +kernel
    exact ⟨_, k g h m hm⟩⟩

theorem witness_EveryStepKeepsLoadsSound : busy.LoadsSound where
  points := fun p => by
    have c : ∀ p, (busy.point p).load.cal = none ∨ (busy.point p).load.cal = some ⟨412, 2000, 1000⟩ := by decide +kernel
    have k : ∀ p, let l := (busy.point p).load
        l.window.length ≤ 8 ∧ (l.value ≠ .absent → l.window.length = 8 ∧ l.cal ≠ none) ∧
        (l.high = 0 ∨ 50 ≤ l.high ∧ l.high ≤ 20000) ∧ l.low ≤ 19950 ∧ (5 ≤ l.hyst ∧ l.hyst ≤ 500) ∧
        (l.overload.exitSeen = true → l.overload.active = true ∧ l.alarm = .latch) ∧
        (l.underload.exitSeen = true → l.underload.active = true ∧ l.alarm = .latch) ∧ l.duty ≤ 65535 ∧
        300 ≤ l.dutyLimit ∧ l.dutyLimit ≤ 60000 := by decide +kernel
    obtain ⟨h1, h2, h3, h4, h5, h6, h7, h8, h9⟩ := k p
    refine ⟨fun x hx => ?_, h1, h2, h3, h4, h5, h6, h7, h8, h9⟩
    rcases c p with e | e <;> rw [e] at hx <;> cases hx
    decide
  queued := by decide +kernel
  active := fun _ h => by cases h

theorem witness_EveryStepKeepsServiceSound : busy.BindingSound ∧ busy.ServiceSound :=
  ⟨witness_EveryStepKeepsBindingSound.1,
    ⟨by decide +kernel, by decide +kernel, by decide +kernel, (fun _ h => by cases h), by decide +kernel,
      ports_of (by decide +kernel) (by decide +kernel) (by decide +kernel)⟩⟩

theorem witness_EveryStepKeepsRangesSound : busy.RangesSound where
  pause := by decide +kernel
  resume := by decide +kernel
  trip := by decide +kernel
  share := by decide +kernel
  tolerance := by decide +kernel
  settle := by decide +kernel
  stopLead := by decide +kernel
  softLimits := by decide +kernel
  trim := by decide +kernel

end Sys2Proof.Tests
end

section
/-!
The load conversion of R52 and R53 (O30): what `roundLoad` and `convertLoad` answer, one lemma per case.
-/
namespace Sys2Proof.Machine

/-- R52 at or above 0: the error lies in the half-open interval that sends a half up, away from zero. -/
theorem roundLoad_bounds_of_nonneg {n : Int} (hn : 0 ≤ n) :
    32768 * roundLoad n - 16384 ≤ n ∧ n < 32768 * roundLoad n + 16384 := by
  rw [roundLoad, if_pos hn]
  omega

/-- Below 0 the rounding of R52 is the mirror image of the one above. -/
theorem roundLoad_of_neg {n : Int} (hn : n < 0) : roundLoad n = -roundLoad (-n) := by
  have hpos : 0 ≤ -n := by omega
  rw [roundLoad, if_neg (by omega), roundLoad, if_pos hpos]

/-- R52 below 0: by the mirror image a half goes down, away from zero. -/
theorem roundLoad_bounds_of_neg {n : Int} (hn : n < 0) :
    32768 * roundLoad n - 16384 < n ∧ n ≤ 32768 * roundLoad n + 16384 := by
  have mirrored := roundLoad_bounds_of_nonneg (n := -n) (by omega)
  rw [roundLoad_of_neg hn]
  omega

/-- The test `convertLoad` makes on a window, as R53 words it. -/
theorem any_code_over_iff (w : List Code) : (w.any fun r => r == 4095) = true ↔ ∃ r ∈ w, r = 4095 := by
  simp only [List.any_eq_true, beq_iff_eq]

/-- R53: any code of 4095 in the window gives OVER. -/
theorem convertLoad_eq_over {w : List Code} (c : Cal) (hw : ∃ r ∈ w, r = 4095) : convertLoad w c = .over := by
  rw [convertLoad, if_pos ((any_code_over_iff w).mpr hw)]

/-- R52: a window without a 4095 gives a number of kilograms. -/
theorem convertLoad_eq_kg {w : List Code} (c : Cal) (hw : ∀ r ∈ w, r ≠ 4095) :
    convertLoad w c = .kg (roundLoad (((codeSum w : Int) - 8 * (c.zero : Int)) * (c.span : Int))) := by
  have hnone : ¬ ∃ r ∈ w, r = 4095 := fun ⟨r, hr, hover⟩ => hw r hr hover
  rw [convertLoad, if_neg (mt (any_code_over_iff w).mp hnone)]

/-- The sum of a window's codes, taken over the integers as R52's n needs it. -/
theorem codeSum_cast (w : List Code) : (codeSum w : Int) = (w.map fun r => (r.toNat : Int)).sum := by
  simp [codeSum, Nat.cast_list_sum, Function.comp_def]

/-- Settles O30: OVER is the first case of the conversion, and otherwise the value is the rounding of R52, whose
error is bounded on either side of zero. -/
theorem loadIsTheNearestKilogram : Obligations.LoadIsTheNearestKilogram := by
  unfold Obligations.LoadIsTheNearestKilogram
  intro w c
  refine ⟨convertLoad_eq_over c, fun hw => ⟨_, convertLoad_eq_kg c hw, ?_⟩⟩
  rw [codeSum_cast]
  exact ⟨roundLoad_bounds_of_nonneg, roundLoad_bounds_of_neg⟩

end Sys2Proof.Machine
end

section
/-!
The requests of the Group Table of R71, R72, R75 to R77 and R83 (O34, O35): what the fields of a request read as, what
each request answers in each case, and what its execution then does to the state.
-/
namespace Sys2Proof.Machine

/-! ## Points of a request -/

@[simp] theorem pointOf_pointByte (p : PointId) : pointOf (pointByte p) = some p := by
  have hval : (pointByte p).toNat = p.val + 1 := by
    simp only [pointByte, byte, BitVec.toNat_ofNat]
    omega
  simp only [pointOf, hval]
  rw [dif_pos (by omega)]
  rfl

theorem pointByte_injective : Function.Injective pointByte := fun p r h =>
  Option.some.inj (by rw [← pointOf_pointByte p, h, pointOf_pointByte])

/-- A byte that reads as a point is that point's byte. -/
theorem eq_pointByte_of_pointOf {b : Byte} {p : PointId} (h : pointOf b = some p) : b = pointByte p := by
  unfold pointOf at h
  split at h
  next hrange =>
    cases h
    apply BitVec.eq_of_toNat_eq
    simp only [pointByte, byte, BitVec.toNat_ofNat]
    omega
  next => cases h

@[simp] theorem pointsOf_map_pointByte (ps : List PointId) : pointsOf (ps.map pointByte) = some ps := by
  induction ps with
  | nil => rfl
  | cons p ps ih => simp only [List.map_cons, pointsOf, pointOf_pointByte, ih]

/-- A SET_MEMBERS list in which every byte is a point is the list of those points' bytes. -/
theorem exists_points_of_all_points {l : List Byte} (h : ∀ x ∈ l, pointOf x ≠ none) :
    ∃ ps : List PointId, l = ps.map pointByte := by
  induction l with
  | nil => exact ⟨[], rfl⟩
  | cons x l ih =>
    obtain ⟨p, hp⟩ := Option.ne_none_iff_exists'.mp (h x List.mem_cons_self)
    obtain ⟨ps, rfl⟩ := ih fun y hy => h y (List.mem_cons_of_mem x hy)
    exact ⟨p :: ps, by rw [List.map_cons, ← eq_pointByte_of_pointOf hp]⟩

theorem pointsOf_eq_none {l : List Byte} (h : ∃ x ∈ l, pointOf x = none) : pointsOf l = none := by
  obtain ⟨x, hx, hnone⟩ := h
  induction hx with
  | head l => simp only [pointsOf, hnone]
  | tail y _ ih =>
    rw [pointsOf, ih]
    cases pointOf y <;> rfl

/-! ## Requests that are refused -/

/-- A refused request only answers. -/
theorem State.request_denies {s : State} {q : Port} (h : s.Takes q) (typ tag : Byte) (body : State → Answer)
    (r : Reject) (hb : body (s.touched q) = (s.touched q).deny r) :
    s.request q typ tag body = s.answered q (typ ||| 0x80) tag r.bytes :=
  State.request_answers h typ tag body (.no r) hb

/-! ## SET_MEMBERS (R71, R72) -/

/-- Points in no other group before the rest of a list are passed over by R71's check 5. -/
theorem State.inUse_append {s : State} {g : GroupId} {pre : List PointId}
    (hpre : ∀ x ∈ pre, ∀ k, (s.point x).group = some k → k = g) (rest : List PointId) :
    s.inUse g (pre ++ rest) = s.inUse g rest := by
  induction pre with
  | nil => rfl
  | cons x pre ih =>
    have hx := hpre x List.mem_cons_self
    have hskip := ih fun y hy => hpre y (List.mem_cons_of_mem x hy)
    rw [List.cons_append, State.inUse]
    cases hgroup : (s.point x).group with
    | none => exact hskip
    | some k => simp only [hx k hgroup, if_true, hskip]

theorem State.inUse_eq_none {s : State} {g : GroupId} {ps : List PointId}
    (h : ∀ x ∈ ps, ∀ k, (s.point x).group = some k → k = g) : s.inUse g ps = none := by
  have hskip := State.inUse_append h []
  rwa [List.append_nil] at hskip

/-- The first point that belongs to another group is the subject of R71's check 5. -/
theorem State.inUse_eq_some {s : State} {g h : GroupId} {pre : List PointId} {p : PointId} (post : List PointId)
    (hpre : ∀ x ∈ pre, ∀ k, (s.point x).group = some k → k = g) (hp : (s.point p).group = some h) (hne : h ≠ g) :
    s.inUse g (pre ++ p :: post) = some (p, h) := by
  rw [State.inUse_append hpre, State.inUse, hp]
  exact if_neg hne

/-- R72, with the group field of each point written out. -/
theorem State.replaceMembers_eq (s : State) (g : GroupId) (ps : List PointId) : s.replaceMembers g ps = { s with
    groups := s.groups.set g { s.group g with
      members := ps.map fun p => ⟨p, .still, none, none, none, none, false, none, 0⟩ }
    points := Vector.ofFn fun p => { s.point p with
      group := if p ∈ ps then some g
        else if ∃ m ∈ (s.group g).members, m.point = p then none
        else (s.point p).group } } := by
  have hpoint : ∀ p : PointId,
      (if ps.contains p then { s.point p with group := some g }
        else if (s.group g).has p then { s.point p with group := none }
        else s.point p) =
      { s.point p with
        group := if p ∈ ps then some g
          else if ∃ m ∈ (s.group g).members, m.point = p then none
          else (s.point p).group } := by
    intro p
    simp only [GroupRec.has, List.contains_iff_mem, List.any_eq_true, beq_iff_eq]
    split_ifs <;> rfl
  simp only [State.replaceMembers, hpoint]
  rfl

theorem State.touched_replaceMembers (s : State) (q : Port) (g : GroupId) (ps : List PointId) :
    (s.touched q).replaceMembers g ps = (s.replaceMembers g ps).touched q := by
  simp only [State.replaceMembers, State.touched, State.setPort, State.setGroup, State.group, State.port, State.point]
  rfl

/-- R72 raises no notice. -/
theorem State.replaceMembers_notice (s : State) (g : GroupId) (ps : List PointId) (x : Port) :
    (s.replaceMembers g ps).notice x = s.notice x := by
  rw [State.replaceMembers_eq, State.notice, State.notice]

theorem State.replaceMembers_quiet {s : State} (h : s.Quiet) (g : GroupId) (ps : List PointId) :
    (s.replaceMembers g ps).Quiet := fun x => by
  rw [State.replaceMembers_notice]
  exact h x

section
variable {s : State} {q : Port} {b : Byte} {g : GroupId} {list : List Byte} {ps : List PointId}

/-- R71's checks 1 and 2: the group, and a list of points without repeats. -/
theorem reqSetMembers_badArgument (hlen : list.length ≤ Config.maxMembers)
    (h : groupOf b = none ∨ (∃ x ∈ list, pointOf x = none) ∨ ¬ list.Nodup) :
    reqSetMembers q b list s = s.deny .badArgument := by
  rw [reqSetMembers, if_neg (Nat.not_lt.mpr hlen)]
  by_cases hpoints : ∃ x ∈ list, pointOf x = none
  · rw [pointsOf_eq_none hpoints]
    cases groupOf b <;> rfl
  · obtain ⟨ps, rfl⟩ := exists_points_of_all_points fun x hx hnone => hpoints ⟨x, hx, hnone⟩
    rw [List.nodup_map_iff pointByte_injective] at h
    rw [pointsOf_map_pointByte]
    cases hg : groupOf b with
    | none => rfl
    | some g =>
      have hrepeat : ¬ ps.Nodup := by simpa [hg, hpoints] using h
      exact if_pos hrepeat

/-- The checks of R71 that are left for a group and a list of different points. -/
theorem reqSetMembers_eq (hlen : (ps.map pointByte).length ≤ Config.maxMembers) (hg : groupOf b = some g)
    (hps : ps.Nodup) :
    reqSetMembers q b (ps.map pointByte) s =
      if (s.group g).holder ≠ some q then s.deny .notHolder
      else if (s.group g).state ≠ .idle then s.deny .busy
      else match s.inUse g ps with
        | some (p, h) => s.deny (.pointInUse p h)
        | none => (s.replaceMembers g ps, .ok (byte ps.length :: ps.map pointByte)) := by
  rw [reqSetMembers, if_neg (Nat.not_lt.mpr hlen), hg, pointsOf_map_pointByte]
  exact if_neg (not_not_intro hps)

end

/-! ## SET_BANDS (R83) -/

theorem reqSetBands_eq {b : Byte} {g : GroupId} (hg : groupOf b = some g) (s : State) (q : Port)
    (pause resume trip share tolerance : Word16) :
    let v := clampBands pause.toNat resume.toNat trip.toNat share.toNat tolerance.toNat
    reqSetBands q b pause resume trip share tolerance s =
      if (s.group g).holder ≠ some q then s.deny .notHolder
      else if (s.group g).state = .moving then s.deny .busy
      else (s.setGroup g { s.group g with bands := v },
        .ok (nat2 v.pause ++ nat2 v.resume ++ nat2 v.trip ++ nat2 v.share ++ nat2 v.tolerance)) := by
  simp only [reqSetBands, hg]

/-- R83 for a byte that is a group: the two refusals, or the clamped bands stored and answered. -/
theorem exec_setBands_eq {s : State} {q : Port} {b : Byte} {g : GroupId} (htakes : s.Takes q) (hg : groupOf b = some g)
    (tag : Byte) (pause resume trip share tolerance : Word16) :
    let v := clampBands pause.toNat resume.toNat trip.toNat share.toNat tolerance.toNat
    exec (.setBands q tag b pause resume trip share tolerance) s =
      if (s.group g).holder ≠ some q then .next (s.answered q 0xB4 tag [4])
      else if (s.group g).state = .moving then .next (s.answered q 0xB4 tag [6])
      else .next ((s.setGroup g { s.group g with bands := v }).answered q 0xB4 tag
        (0 :: nat2 v.pause ++ nat2 v.resume ++ nat2 v.trip ++ nat2 v.share ++ nat2 v.tolerance)) := by
  intro v
  have hchecks := reqSetBands_eq hg (s.touched q) q pause resume trip share tolerance
  rw [State.touched_group] at hchecks
  split_ifs at hchecks ⊢
  · exact congrArg Host.Outcome.next (State.request_denies htakes 0x34 tag _ .notHolder hchecks)
  · exact congrArg Host.Outcome.next (State.request_denies htakes 0x34 tag _ .busy hchecks)
  · exact congrArg Host.Outcome.next (State.request_calm htakes 0x34 tag _ (s.setGroup g { s.group g with bands := v })
      _ htakes.quiet hchecks)

/-- Settles O34: R71's checks in their order with R72's update for SET_MEMBERS, and R83's checks and clamps for
SET_BANDS. -/
theorem membersAndBandsAreReplaced : Obligations.MembersAndBandsAreReplaced := by
  unfold Obligations.MembersAndBandsAreReplaced
  refine ⟨fun s q tag b list htakes hlen => ?_, fun s q tag b pause resume trip share tolerance htakes => ?_⟩
  · have denied : ∀ r, reqSetMembers q b list (s.touched q) = (s.touched q).deny r →
        exec (.setMembers q tag b list) s = .next (s.answered q 0xB0 tag r.bytes) :=
      fun r hr => congrArg Host.Outcome.next (State.request_denies htakes 0x30 tag _ r hr)
    refine ⟨fun hbad => denied .badArgument (reqSetMembers_badArgument hlen hbad), ?_⟩
    rintro g ps hg rfl hps
    have hchecks := reqSetMembers_eq (s := s.touched q) (q := q) hlen hg hps
    rw [State.touched_group] at hchecks
    refine ⟨fun hholder => ?_, fun hholder hstate => ?_, fun hholder hstate => ⟨?_, fun hfree => ?_⟩⟩
    · exact denied .notHolder (by rw [hchecks, if_pos hholder])
    · exact denied .busy (by rw [hchecks, if_neg (not_not_intro hholder), if_pos hstate])
    · rintro pre post p h rfl hpre hp hne
      have huse : (s.touched q).inUse g (pre ++ p :: post) = some (p, h) := State.inUse_eq_some post hpre hp hne
      exact denied (.pointInUse p h) (by
        rw [hchecks, if_neg (not_not_intro hholder), if_neg (not_not_intro hstate), huse])
    · have huse : (s.touched q).inUse g ps = none := State.inUse_eq_none hfree
      have haccept : reqSetMembers q b (ps.map pointByte) (s.touched q) =
          ((s.replaceMembers g ps).touched q, .ok (byte ps.length :: ps.map pointByte)) := by
        rw [hchecks, if_neg (not_not_intro hholder), if_neg (not_not_intro hstate), huse, State.touched_replaceMembers]
      rw [← State.replaceMembers_eq]
      exact congrArg Host.Outcome.next (State.request_calm htakes 0x30 tag _ (s.replaceMembers g ps) _
        (State.replaceMembers_quiet htakes.quiet g ps) haccept)
  · refine ⟨fun hg => ?_, fun g hg => exec_setBands_eq htakes hg tag pause resume trip share tolerance⟩
    exact congrArg Host.Outcome.next (State.request_denies htakes 0x34 tag _ .badArgument (by
      simp only [reqSetBands, hg]))

/-! ## CLAIM, RELEASE and TAKEOVER (R75 to R77) -/

/-- What every change of a claim does: the holder set, the orphan mark cleared, CLAIM_CHANGED at every port. -/
def State.setHolder (s : State) (g : GroupId) (o : Option Port) : State :=
  (s.setGroup g { s.group g with holder := o, orphaned := false }).notifyAll .claimChanged (.group g)

theorem State.giveClaim_eq_setHolder (s : State) (q : Port) (g : GroupId) :
    s.giveClaim q g = s.setHolder g (some q) := rfl

theorem State.touched_setHolder (s : State) (q : Port) (g : GroupId) (o : Option Port) :
    (s.touched q).setHolder g o = (s.setHolder g o).touched q := rfl

/-- A request that changes a claim is answered OK, and the prompts its notices raise follow. -/
theorem State.request_setsHolder {s : State} {q : Port} (h : s.Takes q) (typ tag : Byte) (body : State → Answer)
    (g : GroupId) (o : Option Port) (hb : body (s.touched q) = ((s.touched q).setHolder g o, .ok [])) :
    s.request q typ tag body = ((s.setHolder g o).answered q (typ ||| 0x80) tag [0]).flushPrompts :=
  State.request_effect h typ tag body (s.setHolder g o) (.ok []) (hb.trans (by rw [State.touched_setHolder]))

section
variable {s : State} {q h : Port} {b : Byte} {g : GroupId}

theorem reqClaim_free (hg : groupOf b = some g) (hfree : (s.group g).holder = none) :
    reqClaim q b s = (s.setHolder g (some q), .ok []) := by
  simp only [reqClaim, hg, hfree, State.giveClaim_eq_setHolder]

theorem reqClaim_own (hg : groupOf b = some g) (hown : (s.group g).holder = some q) :
    reqClaim q b s = (if (s.group g).orphaned then s.setHolder g (some q) else s, .ok []) := by
  simp only [reqClaim, hg, hown, State.renewClaim, State.giveClaim_eq_setHolder, if_true]

theorem reqClaim_elsewhere (hg : groupOf b = some g) (hh : (s.group g).holder = some h) (hne : h ≠ q) :
    reqClaim q b s = s.deny (.heldElsewhere h) := by
  simp only [reqClaim, hg, hh, if_neg hne]

/-- TAKEOVER is CLAIM where no other port holds the group. -/
theorem reqTakeover_eq_reqClaim (hg : groupOf b = some g)
    (hmine : (s.group g).holder = none ∨ (s.group g).holder = some q) : reqTakeover q b s = reqClaim q b s := by
  rcases hmine with hfree | hown
  · simp only [reqTakeover, reqClaim, hg, hfree]
  · simp only [reqTakeover, reqClaim, hg, hown, if_true]

theorem reqTakeover_elsewhere (hg : groupOf b = some g) (hh : (s.group g).holder = some h) (hne : h ≠ q) :
    reqTakeover q b s =
      if (s.group g).orphaned = false then s.deny (.heldElsewhere h)
      else if (s.group g).state = .moving ∨ (s.group g).state = .stopping then s.deny .busy
      else (s.setHolder g (some q), .ok []) := by
  simp only [reqTakeover, hg, hh, if_neg hne, GroupState.active_iff, State.giveClaim_eq_setHolder, Bool.not_eq_true]

theorem reqRelease_eq (hg : groupOf b = some g) :
    reqRelease q b s =
      if (s.group g).holder ≠ some q then s.deny .notHolder
      else if (s.group g).state = .moving ∨ (s.group g).state = .stopping then s.deny .busy
      else (s.setHolder g none, .ok []) := by
  simp only [reqRelease, hg, GroupState.active_iff, State.setHolder]

end

/-- Settles O35: the holder is none, the requester or another port, and each request answers by its own rule. -/
theorem claimsReleasesAndTakeovers : Obligations.ClaimsReleasesAndTakeovers := by
  unfold Obligations.ClaimsReleasesAndTakeovers
  intro s q tag b htakes
  have denied : ∀ typ body r, body (s.touched q) = (s.touched q).deny r →
      Host.Outcome.next (φ := Fault) (ρ := Refusal) (s.request q typ tag body) =
        .next (s.answered q (typ ||| 0x80) tag r.bytes) :=
    fun typ body r hr => congrArg Host.Outcome.next (State.request_denies htakes typ tag body r hr)
  have kept : ∀ typ body, body (s.touched q) = (s.touched q, .ok []) →
      Host.Outcome.next (φ := Fault) (ρ := Refusal) (s.request q typ tag body) =
        .next (s.answered q (typ ||| 0x80) tag [0]) :=
    fun typ body hb => congrArg Host.Outcome.next (State.request_answers htakes typ tag body (.ok []) hb)
  have given : ∀ typ body g o, body (s.touched q) = ((s.touched q).setHolder g o, .ok []) →
      Host.Outcome.next (φ := Fault) (ρ := Refusal) (s.request q typ tag body) =
        .next ((s.setHolder g o).answered q (typ ||| 0x80) tag [0]).flushPrompts :=
    fun typ body g o hb => congrArg Host.Outcome.next (State.request_setsHolder htakes typ tag body g o hb)
  refine ⟨fun hg => ⟨?_, ?_, ?_⟩, fun g hg => ⟨fun hfree => ?_, fun hown => ?_, fun h hh hne => ⟨?_, ?_⟩, ?_⟩⟩
  · exact denied 0x31 _ .badArgument (by simp only [reqClaim, hg])
  · exact denied 0x32 _ .badArgument (by simp only [reqRelease, hg])
  · exact denied 0x33 _ .badArgument (by simp only [reqTakeover, hg])
  · have hclaim : reqClaim q b (s.touched q) = _ := reqClaim_free hg hfree
    have hsame : reqTakeover q b (s.touched q) = reqClaim q b (s.touched q) := reqTakeover_eq_reqClaim hg (.inl hfree)
    exact ⟨given 0x31 _ g (some q) hclaim, given 0x33 _ g (some q) (hsame.trans hclaim)⟩
  · have hclaim : reqClaim q b (s.touched q) = _ := reqClaim_own hg hown
    have hsame : reqTakeover q b (s.touched q) = reqClaim q b (s.touched q) := reqTakeover_eq_reqClaim hg (.inr hown)
    rw [State.touched_group] at hclaim
    split_ifs at hclaim ⊢
    · exact ⟨given 0x31 _ g (some q) hclaim, given 0x33 _ g (some q) (hsame.trans hclaim)⟩
    · exact ⟨kept 0x31 _ hclaim, kept 0x33 _ (hsame.trans hclaim)⟩
  · exact denied 0x31 _ (.heldElsewhere h) (reqClaim_elsewhere hg hh hne)
  · have htakeover : reqTakeover q b (s.touched q) = _ := reqTakeover_elsewhere hg hh hne
    rw [State.touched_group] at htakeover
    split_ifs at htakeover ⊢
    · exact denied 0x33 _ (.heldElsewhere h) htakeover
    · exact denied 0x33 _ .busy htakeover
    · exact given 0x33 _ g (some q) htakeover
  · have hrelease : reqRelease q b (s.touched q) = _ := reqRelease_eq hg
    rw [State.touched_group] at hrelease
    split_ifs at hrelease ⊢
    · exact denied 0x32 _ .notHolder hrelease
    · exact denied 0x32 _ .busy hrelease
    · exact given 0x32 _ g none hrelease

end Sys2Proof.Machine
end

section
/-!
The checks of a START (O36): each check of Table 5-4 as a condition on the group or on one member, and the result when
a member is the first to fail it.
-/
namespace Sys2Proof.Machine

/-! ## Checks 1 to 7: the gate -/

theorem PerPort.some_eq_true_iff (v : PerPort Bool) : v.some = true ↔ v ≠ ⟨false, false, false⟩ := by
  obtain ⟨a, b, c⟩ := v
  cases a <;> cases b <;> cases c <;> decide

/-- Checks 1 to 7 for a port's START, with the hold set and the enable as the manual words them. -/
theorem State.startGate_some (s : State) (q : Port) (g : GroupId) :
    s.startGate (some q) g =
      if (s.group g).holder ≠ some q then some .notHolder
      else if (s.group g).state ≠ .idle then some .busy
      else if (s.group g).members = [] then some (.notReady .empty none)
      else if s.stopUnit.estop = true then some (.blocked .estop none)
      else if s.stopUnit.mains ≠ .closed then some (.blocked .mains none)
      else if s.stopUnit.hold ≠ ⟨false, false, false⟩ then some (.blocked .hold none)
      else if (s.port q).enable = false then some (.blocked .noEnable none)
      else none := by
  simp only [State.startGate, State.enabled, PerPort.some_eq_true_iff, Option.isSome_some, true_and,
    Bool.not_eq_true, ne_eq]

/-- Checks 1 to 7 pass exactly when the gate is open. -/
theorem State.startGate_eq_none_iff (s : State) (q : Port) (g : GroupId) :
    s.startGate (some q) g = none ↔ s.GateOpen q g := by
  constructor
  · intro hpass
    rw [State.startGate_some] at hpass
    split_ifs at hpass with holder state members estop mains hold enable
    exact ⟨not_not.mp holder, not_not.mp state, members, by simpa using estop, not_not.mp mains, not_not.mp hold,
      by simpa using enable⟩
  · rintro ⟨holder, state, members, estop, mains, hold, enable⟩
    simp [State.startGate_some, holder, state, members, estop, mains, hold, enable]

/-- The result of checks 1 to 7 when the gate is not open: the first that fails. -/
def State.gateFailure (s : State) (q : Port) (g : GroupId) : Reject :=
  if (s.group g).holder ≠ some q then .notHolder
  else if (s.group g).state ≠ .idle then .busy
  else if (s.group g).members = [] then .notReady .empty none
  else if s.stopUnit.estop = true then .blocked .estop none
  else if s.stopUnit.mains ≠ .closed then .blocked .mains none
  else if s.stopUnit.hold ≠ ⟨false, false, false⟩ then .blocked .hold none
  else .blocked .noEnable none

theorem State.startGate_eq_gateFailure {s : State} {q : Port} {g : GroupId} (hclosed : ¬ s.GateOpen q g) :
    s.startGate (some q) g = some (s.gateFailure q g) := by
  rw [← State.startGate_eq_none_iff] at hclosed
  rw [State.startGate_some] at hclosed ⊢
  unfold State.gateFailure
  split_ifs at hclosed ⊢
  any_goals rfl
  exact absurd rfl hclosed

/-! ## Checks 8 to 12 of one member -/

/-- Check 8: the point is bound, has a position and has a load value. -/
def State.Measured (s : State) (p : PointId) : Prop :=
  (s.point p).boundSlot ≠ none ∧ (s.point p).raw ≠ none ∧ (s.point p).load.value ≠ .absent

/-- The point fails check 11: it has run away, or a set and enabled flag blocks the direction. -/
def State.Vetoed (s : State) (d : Option Dir) (p : PointId) : Prop :=
  (s.point p).stop.runaway = true ∨ ∃ e k, d = some e ∧ (s.point p).stop.flags.get k = true ∧
    (s.point p).stop.masks.get k = true ∧ StopKind.blocks k e = true

/-- R121, as a condition on some flag. -/
theorem StopPart.blocks_eq_true_iff (t : StopPart) (d : Dir) :
    t.blocks d = true ↔ ∃ k, t.flags.get k = true ∧ t.masks.get k = true ∧ StopKind.blocks k d = true := by
  have hall : ∀ k, k ∈ allKinds := fun k => by cases k <;> decide
  simp [StopPart.blocks, hall, and_assoc]

theorem State.pos_isNone (s : State) (p : PointId) : (s.pos p).isNone = (s.point p).raw.isNone := by
  simp [State.pos]

/-- Check 8 in its three parts. -/
theorem State.notReady_eq (s : State) (p : PointId) :
    s.notReady p =
      if (s.point p).boundSlot = none then some (.notReady .unbound (some p))
      else if (s.point p).raw = none then some (.notReady .noPosition (some p))
      else if (s.point p).load.value = .absent then some (.notReady .noLoad (some p))
      else none := by
  simp only [State.notReady, State.pos_isNone, Option.isNone_iff_eq_none]

theorem State.notReady_eq_none_iff (s : State) (p : PointId) : s.notReady p = none ↔ s.Measured p := by
  rw [State.notReady_eq, State.Measured]
  split_ifs <;> simp_all

theorem State.checkOverload_eq_none_iff (s : State) (p : PointId) :
    s.checkOverload p = none ↔ (s.point p).load.overload.active = false := by
  simp [State.checkOverload]

theorem State.checkUnderload_eq_none_iff (s : State) (d : Option Dir) (p : PointId) :
    s.checkUnderload d p = none ↔ (d = some .down → (s.point p).load.underload.active = false) := by
  simp [State.checkUnderload]

/-- Check 11 of a point, as one condition. -/
theorem State.checkStops_eq (s : State) (d : Option Dir) (p : PointId) [Decidable (s.Vetoed d p)] :
    s.checkStops d p = if s.Vetoed d p then some (.blocked .stopInput (some p)) else none := by
  unfold State.checkStops
  refine if_congr ?_ rfl rfl
  cases d <;> simp [State.Vetoed, StopPart.blocks_eq_true_iff, or_comm]

theorem State.checkStops_of_vetoed {s : State} {d : Option Dir} {p : PointId} (h : s.Vetoed d p) :
    s.checkStops d p = some (.blocked .stopInput (some p)) := by
  classical
  rw [State.checkStops_eq, if_pos h]

theorem State.checkStops_eq_none_iff (s : State) (d : Option Dir) (p : PointId) :
    s.checkStops d p = none ↔ ¬ s.Vetoed d p := by
  classical
  simp [State.checkStops_eq]

theorem State.checkDuty_eq_none_iff (s : State) (p : PointId) :
    s.checkDuty p = none ↔ (s.point p).load.dutyHot = false := by
  simp [State.checkDuty]

/-- A member is ready when it passes checks 8 to 12. -/
theorem State.memberReady_iff (s : State) (d : Option Dir) (p : PointId) :
    s.MemberReady d p ↔ s.Measured p ∧ (s.point p).load.overload.active = false ∧
      (d = some .down → (s.point p).load.underload.active = false) ∧ ¬ s.Vetoed d p ∧
      (s.point p).load.dutyHot = false := by
  constructor
  · rintro ⟨bound, position, load, overload, underload, stops, runaway, duty⟩
    refine ⟨⟨bound, position, load⟩, overload, underload, ?_, duty⟩
    rintro (hrun | ⟨e, k, hd, hflag, hmask, hblocks⟩)
    · simp [runaway] at hrun
    · simp [stops e hd k hflag hmask] at hblocks
  · rintro ⟨⟨bound, position, load⟩, overload, underload, hfree, duty⟩
    have hstops : ∀ e, d = some e → ∀ k : StopKind, (s.point p).stop.flags.get k = true →
        (s.point p).stop.masks.get k = true → k.blocks e = false := fun e hd k hflag hmask =>
      Bool.eq_false_iff.mpr fun hblocks => hfree (.inr ⟨e, k, hd, hflag, hmask, hblocks⟩)
    have hrunaway : (s.point p).stop.runaway = false := Bool.eq_false_iff.mpr fun hrun => hfree (.inl hrun)
    exact ⟨bound, position, load, overload, underload, hstops, hrunaway, duty⟩

/-! ## A check over the members in list order -/

/-- The result of a check that is made for each member of a group in list order: that of the first to fail it. -/
def State.firstFailure (s : State) (g : GroupId) (check : PointId → Option Reject) : Option Reject :=
  ((s.group g).members.map Member.point).findSome? check

theorem State.firstFailure_eq_none_iff (s : State) (g : GroupId) (check : PointId → Option Reject) :
    s.firstFailure g check = none ↔ ∀ m ∈ (s.group g).members, check m.point = none := by
  rw [State.firstFailure, List.findSome?_eq_none_iff, List.forall_mem_map]

section
variable {s : State} {g : GroupId} {check : PointId → Option Reject} {passed : PointId → Prop}

/-- A check that every member passes gives no result. -/
theorem State.firstFailure_eq_none (hcheck : ∀ p, check p = none ↔ passed p)
    (hall : ∀ m ∈ (s.group g).members, passed m.point) : s.firstFailure g check = none :=
  (s.firstFailure_eq_none_iff g check).mpr fun m hm => (hcheck m.point).mpr (hall m hm)

/-- A check gives the result of the first member that fails it. -/
theorem State.firstFailure_eq_some {pre post : List Member} {m : Member} {r : Reject}
    (hcheck : ∀ p, check p = none ↔ passed p) (hms : (s.group g).members = pre ++ m :: post)
    (hpre : ∀ k ∈ pre, passed k.point) (hm : check m.point = some r) : s.firstFailure g check = some r := by
  have hskip : (pre.map Member.point).findSome? check = none := by simpa [hcheck] using hpre
  rw [State.firstFailure, hms, List.map_append, List.findSome?_append, hskip, Option.none_or, List.map_cons,
    List.findSome?_cons, hm]

end

/-! ## Table 5-4 in its order -/

/-- Table 5-4 as a chain: a check is reached when those before it pass. -/
theorem State.startCheck_eq (s : State) (req : Option Port) (g : GroupId) (mv : Move) :
    s.startCheck req g mv = (s.startGate req g).or ((s.firstFailure g s.notReady).or
      ((s.firstFailure g s.checkOverload).or ((s.firstFailure g (s.checkUnderload (s.startDir g mv))).or
        ((s.firstFailure g (s.checkStops (s.startDir g mv))).or (s.firstFailure g s.checkDuty))))) := by
  simp only [State.startCheck, State.firstFailure, Option.orElse_eq_orElse, Option.orElse_eq_or]

/-- A START passes exactly when the gate is open and every member is ready. -/
theorem State.startCheck_eq_none_iff (s : State) (q : Port) (g : GroupId) (mv : Move) :
    s.startCheck (some q) g mv = none ↔ s.Startable q g (s.startDir g mv) := by
  have hstartable : s.Startable q g (s.startDir g mv) ↔
      s.GateOpen q g ∧ ∀ m ∈ (s.group g).members, s.MemberReady (s.startDir g mv) m.point :=
    ⟨fun h => ⟨h.gate, h.ready⟩, fun ⟨gate, ready⟩ => ⟨gate, ready⟩⟩
  simp only [hstartable, State.startCheck_eq, Option.or_eq_none_iff, State.startGate_eq_none_iff,
    State.firstFailure_eq_none_iff, State.notReady_eq_none_iff, State.checkOverload_eq_none_iff,
    State.checkUnderload_eq_none_iff, State.checkStops_eq_none_iff, State.checkDuty_eq_none_iff,
    State.memberReady_iff, ← forall_and]

/-- A gate that is not open gives the result, whatever the members are. -/
theorem State.startCheck_of_not_gateOpen {s : State} {q : Port} {g : GroupId} (hclosed : ¬ s.GateOpen q g)
    (mv : Move) : s.startCheck (some q) g mv = some (s.gateFailure q g) := by
  rw [State.startCheck_eq, State.startGate_eq_gateFailure hclosed, Option.some_or]

/-- Behind an open gate the checks of the members decide. -/
theorem State.startCheck_of_gateOpen {s : State} {q : Port} {g : GroupId} (hopen : s.GateOpen q g) (mv : Move) :
    s.startCheck (some q) g mv = (s.firstFailure g s.notReady).or ((s.firstFailure g s.checkOverload).or
      ((s.firstFailure g (s.checkUnderload (s.startDir g mv))).or
        ((s.firstFailure g (s.checkStops (s.startDir g mv))).or (s.firstFailure g s.checkDuty)))) := by
  rw [State.startCheck_eq, (s.startGate_eq_none_iff q g).mpr hopen, Option.none_or]

/-- Settles O36: the chain of Table 5-4. Each check that all members pass drops out of it; the first that a member
fails gives the result. -/
theorem startChecksRunInOrder : Obligations.StartChecksRunInOrder := by
  unfold Obligations.StartChecksRunInOrder
  intro s q g mv
  refine ⟨s.startCheck_eq_none_iff q g mv, fun x o hx => ?_, rfl,
    fun hclosed => State.startCheck_of_not_gateOpen hclosed mv, fun hopen pre m post hms => ?_⟩
  · have hrefused : s.startCheck (some q) g mv = some x := hx
    simp only [State.start, hrefused]
  have chain := State.startCheck_of_gateOpen hopen mv
  refine ⟨fun hpre => ?_, fun hmeasured => ?_⟩
  · have first : ∀ r, s.notReady m.point = some r → s.startCheck (some q) g mv = some r := fun r hr => by
      rw [chain, State.firstFailure_eq_some s.notReady_eq_none_iff hms hpre hr, Option.some_or]
    refine ⟨fun hbound => first _ ?_, fun hbound hraw => first _ ?_, fun hbound hraw hload => first _ ?_⟩
    · rw [State.notReady_eq, if_pos hbound]
    · rw [State.notReady_eq, if_neg hbound, if_pos hraw]
    · rw [State.notReady_eq, if_neg hbound, if_neg hraw, if_pos hload]
  rw [State.firstFailure_eq_none s.notReady_eq_none_iff hmeasured, Option.none_or] at chain
  refine ⟨fun hpre hover => ?_, fun hlight => ?_⟩
  · exact chain.trans (by
      rw [State.firstFailure_eq_some s.checkOverload_eq_none_iff hms hpre (if_pos hover), Option.some_or])
  rw [State.firstFailure_eq_none s.checkOverload_eq_none_iff hlight, Option.none_or] at chain
  have hunderload := s.checkUnderload_eq_none_iff (s.startDir g mv)
  refine ⟨fun hdown hpre hunder => ?_, fun hloaded => ?_⟩
  · exact chain.trans (by
      rw [State.firstFailure_eq_some hunderload hms (fun k hk _ => hpre k hk) (if_pos ⟨hdown, hunder⟩),
        Option.some_or])
  rw [State.firstFailure_eq_none hunderload fun k hk hdown => hloaded.elim (absurd hdown) fun hall => hall k hk,
    Option.none_or] at chain
  have hstops := s.checkStops_eq_none_iff (s.startDir g mv)
  refine ⟨fun hpre hveto => ?_, fun hfree hpre hhot => ?_⟩
  · exact chain.trans (by
      rw [State.firstFailure_eq_some hstops hms hpre (State.checkStops_of_vetoed hveto), Option.some_or])
  · rw [State.firstFailure_eq_none hstops hfree, Option.none_or] at chain
    exact chain.trans (State.firstFailure_eq_some s.checkDuty_eq_none_iff hms hpre (if_pos hhot))

end Sys2Proof.Machine
end

section
/-!
Stops and faults of a group (O39, O40): what a stop, the end of STOPPING and a fault leave, as the states of their
rules, and the requests STOP, ACK_FAULT and SET_STOP_LEAD.
-/
namespace Sys2Proof.Machine

/-! ## Reports of a failed move (R148) -/

/-- The report that a group's move has failed, with its two conditions in one: a cue fired the move, and the engine waits
for that group. -/
theorem State.cueFailed_of_origin (s : State) (g : GroupId) (o : MoveOrigin) (why : Stall) :
    (if o = .cue then s.cueFailed g why else s) =
      if o = .cue ∧ s.cue.state = .running ∧ s.cue.firedGroup = some g then
        (s.setCue { s.cue with firedGroup := none, state := .stalled, stall := some why }).notifyOpt s.cue.owner
          .cueStall (cueSubject s.cue.firedIndex)
      else s := by
  rw [ite_and]
  rfl

/-! ## Stops (R110, R112) -/

/-- The update by which a stop halts the members leaves the record `stopped` describes. -/
theorem GroupRec.stopped_eq (r : GroupRec) (c : StopCause) :
    { (r.updAll fun m => if m.state = .done then { m with runTimer := none } else m.halted) with
      state := .stopping, stopCause := some c } = r.stopped c := by
  have hmember : ∀ m : Member, (if m.state = .done then { m with runTimer := none } else m.halted) =
      { m with state := if m.state = .done then .done else .halt, runTimer := none } := fun m => by
    split_ifs with hdone
    · rw [← hdone]
    · rfl
  simp only [GroupRec.updAll, GroupRec.stopped, hmember]

theorem State.stopGroup_of_not_moving {s : State} {g : GroupId} (h : (s.group g).state ≠ .moving) (c : StopCause) :
    s.stopGroup g c = s := if_neg h

/-- R110: a stop of a MOVING group leaves its record stopped, and then the end of STOPPING is checked. -/
theorem State.stopGroup_of_moving {s : State} {g : GroupId} (h : (s.group g).state = .moving) (c : StopCause) :
    s.stopGroup g c = (s.setGroup g ((s.group g).stopped c)).endStopping g := by
  rw [← GroupRec.stopped_eq]
  exact if_pos h

/-- A member of a group just stopped holds STOPPING unless it is DONE or STILL. -/
theorem State.all_memberStopped_iff (s : State) (g : GroupId) (c : StopCause) :
    let t := s.setGroup g ((s.group g).stopped c)
    (t.group g).members.all t.memberStopped = true ↔ s.AllStill g := by
  have hmember : ∀ m : Member, (s.setGroup g ((s.group g).stopped c)).memberStopped
      { m with state := if m.state = .done then .done else .halt, runTimer := none } = true ↔
      m.state = .done ∨ s.sense m.point = some .still := fun m => by
    have hsense : (s.setGroup g ((s.group g).stopped c)).sense m.point = s.sense m.point := rfl
    by_cases hdone : m.state = .done <;> simp [State.memberStopped, hsense, hdone]
  simp only [State.setGroup_group, if_true, GroupRec.stopped, List.all_map, List.all_eq_true, Function.comp_apply]
  exact forall₂_congr fun m _ => hmember m

theorem State.endStopping_of_held {s : State} {g : GroupId}
    (h : (s.group g).members.all s.memberStopped ≠ true) : s.endStopping g = s :=
  if_neg fun ⟨_, hall⟩ => h hall

/-- R112: when no member holds it, a STOPPING group comes to rest with its notice and report. -/
theorem State.endStopping_of_stopped {s : State} {g : GroupId} (hstate : (s.group g).state = .stopping)
    (h : (s.group g).members.all s.memberStopped = true) :
    let u := (s.setGroup g (s.group g).atRest).notifyOpt (s.group g).holder .groupStopped (.group g)
    s.endStopping g =
      if (s.group g).origin = .cue ∧ s.cue.state = .running ∧ s.cue.firedGroup = some g then
        (u.setCue { s.cue with firedGroup := none, state := .stalled, stall := some .stopped }).notifyOpt s.cue.owner
          .cueStall (cueSubject s.cue.firedIndex)
      else u := by
  have hreport := State.cueFailed_of_origin
    ((s.setGroup g (s.group g).atRest).notifyOpt (s.group g).holder .groupStopped (.group g)) g (s.group g).origin
    .stopped
  simp only [State.notifyOpt_cue, State.setGroup_cue] at hreport
  have hholder : ((s.setGroup g (s.group g).atRest).group g).holder = (s.group g).holder := by
    rw [State.setGroup_group, if_pos rfl]
    rfl
  intro u
  rw [← hreport, ← hholder]
  exact if_pos ⟨hstate, h⟩

/-! ### Stops after an arrival -/

theorem State.touched_cueFailed (s : State) (q : Port) (g : GroupId) (why : Stall) :
    (s.touched q).cueFailed g why = (s.cueFailed g why).touched q := by
  simp only [State.cueFailed, State.notifyOwner, State.touched_cue, State.touched_setCue, State.touched_notifyOpt,
    apply_ite (State.touched · q)]

theorem State.touched_endStopping (s : State) (q : Port) (g : GroupId) :
    (s.touched q).endStopping g = (s.endStopping g).touched q := by
  have hstopped : (s.touched q).memberStopped = s.memberStopped := rfl
  simp only [State.endStopping, hstopped, State.notifyHolder, State.touched_group, State.touched_setGroup,
    State.touched_notifyOpt, State.touched_cueFailed, apply_ite (State.touched · q)]

theorem State.touched_stopGroup (s : State) (q : Port) (g : GroupId) (c : StopCause) :
    (s.touched q).stopGroup g c = (s.stopGroup g c).touched q := by
  by_cases hmoving : (s.group g).state = .moving
  · rw [State.stopGroup_of_moving hmoving, State.stopGroup_of_moving (s := s.touched q) hmoving,
      ← State.touched_endStopping]
    rfl
  · rw [State.stopGroup_of_not_moving hmoving, State.stopGroup_of_not_moving (s := s.touched q) hmoving]

/-- Settles O39: a stop halts the members and checks the end of STOPPING at once; STOP answers what that left. -/
theorem stopsHaltAndEnd : Obligations.StopsHaltAndEnd := by
  unfold Obligations.StopsHaltAndEnd
  refine ⟨fun s g c => ⟨fun hrest => State.stopGroup_of_not_moving hrest c, fun hmoving hheld => ?_,
    fun hmoving hstill => ?_⟩, fun s q tag b htakes => ⟨fun hg => ?_, fun g hg => ?_⟩⟩
  · rw [State.stopGroup_of_moving hmoving]
    exact State.endStopping_of_held fun hall => hheld ((s.all_memberStopped_iff g c).mp hall)
  · have hends := State.endStopping_of_stopped (s := s.setGroup g ((s.group g).stopped c)) (g := g)
      (by rw [State.setGroup_group, if_pos rfl]; rfl) ((s.all_memberStopped_iff g c).mpr hstill)
    simp only [State.setGroup_group, if_true, State.setGroup_setGroup] at hends
    rw [State.stopGroup_of_moving hmoving]
    exact hends
  · exact congrArg Host.Outcome.next (State.request_denies htakes 0x43 tag _ .badArgument (by simp only [reqStop, hg]))
  · exact congrArg Host.Outcome.next (State.request_effect htakes 0x43 tag _ (s.stopGroup g .stop)
      (.ok [((s.stopGroup g .stop).group g).state.code]) (by
        simp only [reqStop, hg, State.touched_stopGroup, State.touched_group]))

/-! ## Faults (R113, R114) -/

theorem State.faultGroup_of_not_active {s : State} {g : GroupId} (h : (s.group g).state.active ≠ true) (k : FaultKind)
    (p : Option PointId) : s.faultGroup g k p = s := if_neg h

/-- R114: a fault of a MOVING or STOPPING group leaves its record faulted, with the notices and the report. -/
theorem State.faultGroup_of_active {s : State} {g : GroupId} (h : (s.group g).state.active = true) (k : FaultKind)
    (p : Option PointId) :
    let u := (s.setGroup g ((s.group g).faulted k p)).notifyAll .groupFault (.group g)
    s.faultGroup g k p =
      if (s.group g).origin = .cue ∧ s.cue.state = .running ∧ s.cue.firedGroup = some g then
        (u.setCue { s.cue with firedGroup := none, state := .stalled, stall := some .faulted }).notifyOpt s.cue.owner
          .cueStall (cueSubject s.cue.firedIndex)
      else u :=
  (if_pos h).trans (State.cueFailed_of_origin
    ((s.setGroup g ((s.group g).faulted k p)).notifyAll .groupFault (.group g)) g (s.group g).origin .faulted)

/-- A fault request leaves no group in motion: the group was not, or is in FAULT. -/
theorem State.faultGroup_not_active (s : State) (g : GroupId) (k : FaultKind) (p : Option PointId) :
    ((s.faultGroup g k p).group g).state.active ≠ true := by
  rw [State.faultGroup_group]
  split_ifs with h
  · exact Bool.false_ne_true
  · exact fun hactive => h ⟨rfl, hactive⟩

/-- R113: the first cause stands. -/
theorem State.faultGroup_faultGroup (s : State) (g : GroupId) (k k' : FaultKind) (p p' : Option PointId) :
    (s.faultGroup g k p).faultGroup g k' p' = s.faultGroup g k p :=
  State.faultGroup_of_not_active (s.faultGroup_not_active g k p) k' p'

/-! ## ACK_FAULT (R115) and SET_STOP_LEAD (R104) -/

theorem State.all_memberAtRest_iff (s : State) (ms : List Member) : ms.all s.memberAtRest = true ↔
    ∀ m ∈ ms, (s.point m.point).boundSlot = none ∨ s.sense m.point = some .still := by
  simp only [List.all_eq_true, State.memberAtRest, Bool.or_eq_true, Option.isNone_iff_eq_none, beq_iff_eq]

/-- R115's checks for a byte that is a group. -/
theorem reqAckFault_eq {b : Byte} {g : GroupId} (hg : groupOf b = some g) (s : State) (q : Port) :
    reqAckFault q b s =
      if (s.group g).holder ≠ some q then s.deny .notHolder
      else if (s.group g).state = .moving ∨ (s.group g).state = .stopping then s.deny .busy
      else if (s.group g).state = .idle then (s, .ok [])
      else if ∀ m ∈ (s.group g).members, (s.point m.point).boundSlot = none ∨ s.sense m.point = some .still then
        (s.setGroup g { (s.group g).atRest with fault := none }, .ok [])
      else s.deny .busy := by
  simp only [reqAckFault, hg, State.all_memberAtRest_iff]
  refine if_congr Iff.rfl rfl ?_
  cases (s.group g).state with
  | idle => rfl
  | moving => rfl
  | stopping => rfl
  | fault => rfl

/-- R115 for a byte that is a group, with what the request leaves and answers. -/
theorem exec_ackFault_eq {s : State} {q : Port} {b : Byte} {g : GroupId} (htakes : s.Takes q) (hg : groupOf b = some g)
    (tag : Byte) :
    exec (.ackFault q tag b) s =
      if (s.group g).holder ≠ some q then .next (s.answered q 0xC4 tag [4])
      else if (s.group g).state = .moving ∨ (s.group g).state = .stopping then .next (s.answered q 0xC4 tag [6])
      else if (s.group g).state = .idle then .next (s.answered q 0xC4 tag [0])
      else if ∀ m ∈ (s.group g).members, (s.point m.point).boundSlot = none ∨ s.sense m.point = some .still then
        .next ((s.setGroup g { (s.group g).atRest with fault := none }).answered q 0xC4 tag [0])
      else .next (s.answered q 0xC4 tag [6]) := by
  have hchecks := reqAckFault_eq hg (s.touched q) q
  have denied := fun r hr => congrArg (Host.Outcome.next (φ := Fault) (ρ := Refusal))
    (State.request_denies htakes 0x44 tag (reqAckFault q b) r hr)
  split_ifs with hholder hactive hidle hrest
  · exact denied .notHolder (hchecks.trans (if_pos hholder))
  · exact denied .busy ((hchecks.trans (if_neg hholder)).trans (if_pos hactive))
  · exact congrArg Host.Outcome.next (State.request_answers htakes 0x44 tag (reqAckFault q b) (.ok [])
      (((hchecks.trans (if_neg hholder)).trans (if_neg hactive)).trans (if_pos hidle)))
  · exact congrArg Host.Outcome.next (State.request_calm htakes 0x44 tag (reqAckFault q b)
      (s.setGroup g { (s.group g).atRest with fault := none }) (.ok []) htakes.quiet
      ((((hchecks.trans (if_neg hholder)).trans (if_neg hactive)).trans (if_neg hidle)).trans (if_pos hrest)))
  · exact denied .busy
      ((((hchecks.trans (if_neg hholder)).trans (if_neg hactive)).trans (if_neg hidle)).trans (if_neg hrest))

/-- R104's check for a byte that is a point. -/
theorem reqSetStopLead_eq {b : Byte} {p : PointId} (hp : pointOf b = some p) (s : State) (lead : Word16) :
    reqSetStopLead b lead s =
      if s.pointActive p then s.deny .busy
      else (s.setPoint p { s.point p with stopLead := min lead.toNat 250 }, .ok [byte (min lead.toNat 250)]) := by
  simp only [reqSetStopLead, hp]

/-- Settles O40: a fault leaves no group in motion for a second one; ACK_FAULT and SET_STOP_LEAD answer by their
checks. -/
theorem faultsStandUntilAcknowledged : Obligations.FaultsStandUntilAcknowledged := by
  unfold Obligations.FaultsStandUntilAcknowledged
  refine ⟨fun s g k k' p p' => ⟨fun hmoving hstopping => ?_, fun hactive => ?_, s.faultGroup_faultGroup g k k' p p'⟩,
    fun s q tag b lead htakes => ⟨fun hg => ?_, fun g hg => exec_ackFault_eq htakes hg tag, fun hp => ?_,
      fun p hp => ⟨fun hactive => ?_, fun hrest => ?_⟩⟩⟩
  · exact State.faultGroup_of_not_active (by simp [GroupState.active_iff, hmoving, hstopping]) k p
  · exact State.faultGroup_of_active ((GroupState.active_iff _).mpr hactive) k p
  · exact congrArg Host.Outcome.next (State.request_denies htakes 0x44 tag _ .badArgument (by
      simp only [reqAckFault, hg]))
  · exact congrArg Host.Outcome.next (State.request_denies htakes 0x45 tag _ .badArgument (by
      simp only [reqSetStopLead, hp]))
  · have hbusy : s.pointActive p = true := (s.pointActive_iff p).mpr hactive
    exact congrArg Host.Outcome.next (State.request_denies htakes 0x45 tag _ .busy (by
      rw [reqSetStopLead_eq hp, State.touched_pointActive, if_pos hbusy]))
  · have hfree : ¬ s.pointActive p = true := fun hactive => by
      obtain ⟨g, hgroup, hmotion⟩ := (s.pointActive_iff p).mp hactive
      exact hmotion.elim (hrest g hgroup).1 (hrest g hgroup).2
    exact congrArg Host.Outcome.next (State.request_calm htakes 0x45 tag _
      (s.setPoint p { s.point p with stopLead := min lead.toNat 250 }) (.ok [byte (min lead.toNat 250)]) htakes.quiet
      (by rw [reqSetStopLead_eq hp, State.touched_pointActive, if_neg hfree, State.touched_setPoint,
        State.touched_point]))

end Sys2Proof.Machine
end

section
/-!
The grid hold of R134 and R135 (O46): what stopping several groups in order leaves of each, and the requests
GRID_HOLD_SET and GRID_HOLD_CLEAR.
-/
namespace Sys2Proof.Machine

/-! ## Stops of several groups -/

/-- The motion senses are read from the points and slots, which no stop touches. -/
theorem State.MovesTo.sense {s t : State} (h : s.MovesTo t) : t.sense = s.sense := by
  rw [h]
  rfl

/-- The record a stop request leaves of its group (R110, R112). -/
def State.stopOutcome (s : State) (c : StopCause) (g : GroupId) : GroupRec :=
  if (s.group g).state = .moving then
    if s.AllStill g then ((s.group g).stopped c).atRest else (s.group g).stopped c
  else s.group g

theorem State.stopGroup_group (s : State) (g : GroupId) (c : StopCause) :
    (s.stopGroup g c).group g = s.stopOutcome c g := by
  by_cases hmoving : (s.group g).state = .moving
  · have hstopped : (s.setGroup g ((s.group g).stopped c)).group g = (s.group g).stopped c := by
      rw [State.setGroup_group, if_pos rfl]
    have hstopping : ((s.group g).stopped c).state = .stopping := rfl
    have hall := s.all_memberStopped_iff g c
    simp only [hstopped] at hall
    simp only [State.stopGroup_of_moving hmoving, State.endStopping_group, hstopped, hstopping, hall, true_and,
      State.stopOutcome, if_pos hmoving]
    rfl
  · rw [State.stopGroup_of_not_moving hmoving, State.stopOutcome, if_neg hmoving]

/-- What a stop leaves of a group depends on its own record and the motion senses alone. -/
theorem State.stopOutcome_congr {s t : State} {g : GroupId} (hgroup : t.group g = s.group g)
    (hsense : t.sense = s.sense) (c : StopCause) : t.stopOutcome c g = s.stopOutcome c g := by
  simp only [State.stopOutcome, State.AllStill, hgroup, hsense]

/-- A stop of one group leaves what a stop does to the others as it was. -/
theorem State.stopOutcome_stopGroup (s : State) {g x : GroupId} (h : x ≠ g) (c : StopCause) :
    (s.stopGroup g c).stopOutcome c x = s.stopOutcome c x :=
  State.stopOutcome_congr (s.stopGroup_other h c) (s.stopGroup_moves g c).sense c

/-- Stops of different groups, one after the other, each leave what they would leave alone. -/
theorem State.stopGroups_group (c : StopCause) {l : List GroupId} (hl : l.Nodup) (s : State) (x : GroupId) :
    (l.foldl (fun t g => t.stopGroup g c) s).group x = if x ∈ l then s.stopOutcome c x else s.group x := by
  induction l generalizing s with
  | nil => rfl
  | cons g l ih =>
    obtain ⟨hg, hl⟩ := List.nodup_cons.mp hl
    rw [List.foldl_cons, ih hl]
    by_cases hx : x = g
    · subst hx
      rw [if_neg hg, if_pos List.mem_cons_self, State.stopGroup_group]
    · simp only [List.mem_cons, hx, false_or, State.stopOutcome_stopGroup s hx, State.stopGroup_other s hx]

/-- Of several groups only those MOVING at the outset are stopped, since a stop sets none of the others in motion. -/
theorem State.stopGroups_eq_filter (c : StopCause) {l : List GroupId} (hl : l.Nodup) (s : State) :
    l.foldl (fun t g => t.stopGroup g c) s =
      (l.filter fun g => (s.group g).state == .moving).foldl (fun t g => t.stopGroup g c) s := by
  induction l generalizing s with
  | nil => rfl
  | cons g l ih =>
    obtain ⟨hg, hl⟩ := List.nodup_cons.mp hl
    have hrest : (l.filter fun x => ((s.stopGroup g c).group x).state == .moving) =
        l.filter fun x => (s.group x).state == .moving :=
      List.filter_congr fun x hx => by rw [State.stopGroup_other s (ne_of_mem_of_not_mem hx hg)]
    rw [List.foldl_cons, ih hl, hrest, List.filter_cons]
    by_cases hmoving : (s.group g).state = .moving
    · rw [if_pos (beq_iff_eq.mpr hmoving), List.foldl_cons]
    · rw [if_neg (mt beq_iff_eq.mp hmoving), State.stopGroup_of_not_moving hmoving]

theorem allGroups_nodup : allGroups.Nodup := List.nodup_finRange 16

theorem State.stopAll_group (s : State) (c : StopCause) (g : GroupId) :
    (s.stopAll c).group g = s.stopOutcome c g :=
  (State.stopGroups_group c allGroups_nodup s g).trans (if_pos (List.mem_finRange g))

theorem State.touched_stopAll (s : State) (q : Port) (c : StopCause) :
    (s.touched q).stopAll c = (s.stopAll c).touched q :=
  List.foldl_hom (State.touched · q) fun t g => t.touched_stopGroup q g c

/-! ## GRID_HOLD_SET and GRID_HOLD_CLEAR (R134, R135) -/

/-- The grid-hold set with port r in it or not. -/
def State.setHold (s : State) (r : Port) (v : Bool) : State :=
  s.setStopUnit { s.stopUnit with hold := s.stopUnit.hold.set r v }

theorem State.touched_setHold (s : State) (q r : Port) (v : Bool) :
    (s.touched q).setHold r v = (s.setHold r v).touched q := rfl

theorem reqGridHoldSet_held {s : State} {q : Port} (h : s.stopUnit.hold.get q = true) :
    reqGridHoldSet q s = (s, .ok [portSetByte s.stopUnit.hold]) := by
  simp only [reqGridHoldSet, if_pos h]

/-- R134: the stops leave the set as the port's hold made it, and that is what the request answers. -/
theorem reqGridHoldSet_free {s : State} {q : Port} (h : s.stopUnit.hold.get q ≠ true) :
    reqGridHoldSet q s = (((s.setHold q true).notifyAll .gridHold (.port q)).stopAll .hold,
      .ok [portSetByte (s.stopUnit.hold.set q true)]) := by
  have hset := (((s.setHold q true).notifyAll .gridHold (.port q)).stopAll_moves .hold).stopUnit
  rw [State.notifyAll_stopUnit] at hset
  simp only [reqGridHoldSet, if_neg h]
  rw [← State.setHold, hset]
  rfl

theorem exec_gridHoldSet_eq {s : State} {q : Port} (htakes : s.Takes q) (tag : Byte) :
    exec (.gridHoldSet q tag) s =
      if s.stopUnit.hold.get q then .next (s.answered q 0xD4 tag [0, portSetByte s.stopUnit.hold])
      else .next ((((s.setHold q true).notifyAll .gridHold (.port q)).stopAll .hold).answered q 0xD4 tag
        [0, portSetByte (s.stopUnit.hold.set q true)]).flushPrompts := by
  split_ifs with hheld
  · exact congrArg Host.Outcome.next (State.request_answers htakes 0x54 tag _ _
      (reqGridHoldSet_held (s := s.touched q) hheld))
  · exact congrArg Host.Outcome.next (State.request_effect htakes 0x54 tag _
      (((s.setHold q true).notifyAll .gridHold (.port q)).stopAll .hold)
      (.ok [portSetByte (s.stopUnit.hold.set q true)]) (by
        rw [reqGridHoldSet_free (s := s.touched q) hheld, State.touched_setHold, State.touched_notifyAll,
          State.touched_stopAll, State.touched_stopUnit]))

theorem State.clearHold_held {s : State} {r : Port} (h : s.stopUnit.hold.get r = true) (q : Port) :
    s.clearHold q r = ((s.setHold r false).notifyAll .gridHoldClear (.port q),
      .ok [portSetByte (s.stopUnit.hold.set r false)]) := by
  simp only [State.clearHold, if_pos h]
  rfl

theorem State.clearHold_free {s : State} {r : Port} (h : s.stopUnit.hold.get r ≠ true) (q : Port) :
    s.clearHold q r = (s, .ok [portSetByte s.stopUnit.hold]) := by
  simp only [State.clearHold, if_neg h]

/-- R135 names the port whose hold goes: the requesting port itself when the request names none. -/
theorem reqGridHoldClear_eq {target : Option Byte} {q r : Port}
    (h : target = none ∧ r = q ∨ ∃ b, target = some b ∧ portOf b = some r) (s : State) :
    reqGridHoldClear q target s = s.clearHold q r := by
  obtain ⟨rfl, rfl⟩ | ⟨b, rfl, hb⟩ := h
  · rfl
  · simp only [reqGridHoldClear, hb]

theorem exec_gridHoldClear_eq {s : State} {q r : Port} {target : Option Byte} (htakes : s.Takes q)
    (htarget : target = none ∧ r = q ∨ ∃ b, target = some b ∧ portOf b = some r) (tag : Byte) :
    exec (.gridHoldClear q tag target) s =
      if s.stopUnit.hold.get r then
        .next (((s.setHold r false).notifyAll .gridHoldClear (.port q)).answered q 0xD5 tag
          [0, portSetByte (s.stopUnit.hold.set r false)]).flushPrompts
      else .next (s.answered q 0xD5 tag [0, portSetByte s.stopUnit.hold]) := by
  have hbody := reqGridHoldClear_eq htarget (s.touched q)
  split_ifs with hheld
  · exact congrArg Host.Outcome.next (State.request_effect htakes 0x55 tag _
      ((s.setHold r false).notifyAll .gridHoldClear (.port q))
      (.ok [portSetByte (s.stopUnit.hold.set r false)]) (by
        rw [hbody, State.clearHold_held (s := s.touched q) hheld, State.touched_setHold, State.touched_notifyAll,
          State.touched_stopUnit]))
  · exact congrArg Host.Outcome.next (State.request_answers htakes 0x55 tag _ _
      (hbody.trans (State.clearHold_free (s := s.touched q) hheld q)))

/-- Settles O46: each request by whether the port's hold is set, and the stops of R134 group by group, none of which
depends on the others. -/
theorem gridHoldsStopTheRig : Obligations.GridHoldsStopTheRig := by
  unfold Obligations.GridHoldsStopTheRig
  refine ⟨fun s q tag htakes => ⟨exec_gridHoldSet_eq htakes tag, fun b hb => ?_,
    fun target r htarget => exec_gridHoldClear_eq htakes htarget tag⟩,
    fun s => ⟨State.stopGroups_eq_filter .hold allGroups_nodup s, s.stopAll_group .hold, s.stopAll_moves .hold⟩⟩
  exact congrArg Host.Outcome.next (State.request_denies htakes 0x55 tag _ .badArgument (by
    simp only [reqGridHoldClear, hb]))

end Sys2Proof.Machine
end

section
/-!
The owner's edits of the cue list and the engine, and CUE_OWN (O47, R138 to R142 and R149): what the intake does with a
request that leaves the engine as given, the checks of each request, and what it then answers.
-/
namespace Sys2Proof.Machine

/-! ## Requests that leave the Cue Engine as given -/

/-- The outcome of a request that leaves the Cue Engine as c, raises no notice and answers the payload. -/
def State.cueAnswer (s : State) (q : Port) (tag : Byte) (c : Cue) (typ : Byte) (payload : List Byte) :
    Host.Outcome State Fault Refusal :=
  .next ((s.setCue c).answered q typ tag payload)

section
variable {s : State} {q : Port} {typ tag : Byte}

theorem State.request_leavesCue (h : s.Takes q) {body : State → Answer} {c : Cue} {r : Reply}
    (hb : body (s.touched q) = ((s.touched q).setCue c, r)) :
    .next (s.request q typ tag body) = s.cueAnswer q tag c (typ ||| 0x80) r.bytes :=
  congrArg Host.Outcome.next (State.request_calm h typ tag body (s.setCue c) r h.quiet
    (hb.trans (by rw [State.touched_setCue])))

/-- A request that only answers leaves the engine as it is. -/
theorem State.request_keepsCue (h : s.Takes q) {body : State → Answer} {r : Reply}
    (hb : body (s.touched q) = (s.touched q, r)) :
    .next (s.request q typ tag body) = s.cueAnswer q tag s.cue (typ ||| 0x80) r.bytes :=
  State.request_leavesCue h hb

theorem State.ownerOnly_owner (hown : s.cue.owner = some q) (k : Answer) : s.ownerOnly q k = k := if_pos hown

theorem State.ownerOnly_other (hother : s.cue.owner ≠ some q) (k : Answer) : s.ownerOnly q k = s.deny .notHolder :=
  if_neg hother

/-- A request accepted from the owner alone is refused NOT_HOLDER to any other port. -/
theorem State.request_notOwner (h : s.Takes q) (hother : s.cue.owner ≠ some q) (k : State → Answer) :
    .next (s.request q typ tag fun t => t.ownerOnly q (k t)) = s.cueAnswer q tag s.cue (typ ||| 0x80) [4] :=
  State.request_keepsCue h (r := .no .notHolder) (State.ownerOnly_other (s := s.touched q) hother _)

/-- For the owner the request is executed. -/
theorem State.request_owner (h : s.Takes q) (hown : s.cue.owner = some q) (k : State → Answer) {c : Cue} {r : Reply}
    (hk : k (s.touched q) = ((s.touched q).setCue c, r)) :
    .next (s.request q typ tag fun t => t.ownerOnly q (k t)) = s.cueAnswer q tag c (typ ||| 0x80) r.bytes :=
  State.request_leavesCue h ((State.ownerOnly_owner (s := s.touched q) hown _).trans hk)

end

/-! ## CUE_WRITE (R138) -/

/-- Replacing entry i and appending at the count are one operation: the entries before i, the new one, those after i. -/
theorem writeEntry_eq {l : List CueEntry} {i : Nat} (hi : i ≤ l.length) (e : CueEntry) :
    writeEntry l i e = l.take i ++ e :: l.drop (i + 1) := by
  by_cases hlt : i < l.length
  · rw [writeEntry, if_pos hlt, List.set_eq_take_append_cons_drop, if_pos hlt]
  · have hcount : i = l.length := by omega
    subst hcount
    rw [writeEntry, if_neg hlt, List.take_length, List.drop_eq_nil_of_le (Nat.le_succ _)]

/-- The value is out of the range of its action (Table 7-1). -/
def CueValueOut (a : CueAction) (v : Int) : Prop :=
  (a = .moveTo ∧ ¬ (-1000 ≤ v ∧ v ≤ 66535)) ∨ (a = .moveBy ∧ ¬ (-66535 ≤ v ∧ v ≤ 66535))

theorem cueValueOk_iff (a : CueAction) (v : Int) : cueValueOk a v = true ↔ ¬ CueValueOut a v := by
  cases a <;> simp [cueValueOk, CueValueOut]

/-- What R138 checks of a write whose fields are read, as the checks that can fail. -/
theorem cueWriteOk_iff (i n : Nat) (a : CueAction) (v : Int) :
    (i ≤ 63 ∧ i ≤ n ∧ cueValueOk a v = true) ↔ ¬ (63 < i ∨ n < i ∨ CueValueOut a v) := by
  simp only [cueValueOk_iff, not_or, Nat.not_lt]

theorem cueValue_eq (a : CueAction) (v : Int) : cueValue a v = if a = .stop then 0 else v := by
  cases a <;> rfl

section
variable {s : State} {q : Port} {tag index group action follow : Byte} {value : Word24}

/-- The entry a CUE_WRITE of these fields stores. -/
def cueEntryOf (g : GroupId) (a : CueAction) (value : Word24) (f : Bool) : CueEntry :=
  ⟨g, a, if a = .stop then 0 else value.toInt, f⟩

/-- The list after an accepted CUE_WRITE. -/
def Cue.written (c : Cue) (i : Nat) (e : CueEntry) : Cue := { c with list := c.list.take i ++ e :: c.list.drop (i + 1) }

theorem reqCueWrite_running (hown : s.cue.owner = some q) (hrun : s.cue.state = .running) :
    reqCueWrite q index group action value follow s = s.deny .busy := by
  rw [reqCueWrite, State.ownerOnly_owner hown, if_pos hrun]

/-- A group, an action or a follow byte that Table 7-1 does not have. -/
theorem reqCueWrite_unread (hown : s.cue.owner = some q) (hrest : s.cue.state ≠ .running)
    (hbad : ∀ g a f, groupOf group = some g → cueActionOf action = some a → yesNoOf follow = some f → False) :
    reqCueWrite q index group action value follow s = s.deny .badArgument := by
  rw [reqCueWrite, State.ownerOnly_owner hown, if_neg hrest]
  split
  next g a f hg ha hf => exact (hbad g a f hg ha hf).elim
  next => rfl

variable {g : GroupId} {a : CueAction} {f : Bool}

/-- What is left to check of a write whose fields are all read: the index and the value. -/
theorem reqCueWrite_read (hown : s.cue.owner = some q) (hrest : s.cue.state ≠ .running) (hg : groupOf group = some g)
    (ha : cueActionOf action = some a) (hf : yesNoOf follow = some f) :
    reqCueWrite q index group action value follow s =
      if index.toNat ≤ 63 ∧ index.toNat ≤ s.cue.list.length ∧ cueValueOk a value.toInt then
        let l := writeEntry s.cue.list index.toNat ⟨g, a, cueValue a value.toInt, f⟩
        (s.setCue { s.cue with list := l }, .ok [byte l.length])
      else s.deny .badArgument := by
  rw [reqCueWrite, State.ownerOnly_owner hown, if_neg hrest, hg, ha, hf]

theorem reqCueWrite_outOfRange (hown : s.cue.owner = some q) (hrest : s.cue.state ≠ .running)
    (hg : groupOf group = some g) (ha : cueActionOf action = some a) (hf : yesNoOf follow = some f)
    (hout : 63 < index.toNat ∨ s.cue.list.length < index.toNat ∨ CueValueOut a value.toInt) :
    reqCueWrite q index group action value follow s = s.deny .badArgument := by
  rw [reqCueWrite_read hown hrest hg ha hf, if_neg (mt (cueWriteOk_iff ..).mp (not_not_intro hout))]

theorem reqCueWrite_accepted (hown : s.cue.owner = some q) (hrest : s.cue.state ≠ .running)
    (hg : groupOf group = some g) (ha : cueActionOf action = some a) (hf : yesNoOf follow = some f)
    (hin : ¬ (63 < index.toNat ∨ s.cue.list.length < index.toNat ∨ CueValueOut a value.toInt)) :
    reqCueWrite q index group action value follow s =
      (s.setCue (s.cue.written index.toNat (cueEntryOf g a value f)),
        .ok [byte (s.cue.written index.toNat (cueEntryOf g a value f)).list.length]) := by
  have hok := (cueWriteOk_iff ..).mpr hin
  have ⟨_, hcount, _⟩ := hok
  rw [reqCueWrite_read hown hrest hg ha hf, if_pos hok, cueValue_eq, writeEntry_eq hcount]
  rfl

end

/-! ## CUE_OWN (R140) -/

section
variable {s : State} {q o : Port}

theorem reqCueOwn_free (hfree : s.cue.owner = none) :
    reqCueOwn q s = (s.setCue { s.cue with owner := some q }, .ok []) := by
  simp only [reqCueOwn, hfree]

theorem reqCueOwn_own (hown : s.cue.owner = some q) : reqCueOwn q s = (s, .ok []) := by
  simp only [reqCueOwn, hown, if_true]

theorem reqCueOwn_ownerDown (ho : s.cue.owner = some o) (hne : o ≠ q) (hlink : (s.port o).link = .down) :
    reqCueOwn q s = (s.setCue { s.cue with owner := some q }, .ok []) := by
  simp only [reqCueOwn, ho, if_neg hne, hlink]

theorem reqCueOwn_ownerUp (ho : s.cue.owner = some o) (hne : o ≠ q) (hlink : (s.port o).link ≠ .down) :
    reqCueOwn q s = s.deny (.heldElsewhere o) := by
  simp only [reqCueOwn, ho, if_neg hne]
  split
  next hdown => exact absurd hdown hlink
  next => rfl

end

/-! ## CUE_CONFIG (R141) -/

/-- A byte read as a source is that source's code. -/
theorem GoSource.code_of_goSourceOf {x : Byte} {c : GoSource} (h : goSourceOf x = some c) : c.code = x := by
  unfold goSourceOf at h
  split at h
  case h_4 => cases h
  all_goals
    cases h
    exact BitVec.eq_of_toNat_eq (Eq.symm ‹x.toNat = _›)

/-- A byte read as a line mode is that mode's code. -/
theorem LineMode.code_of_lineModeOf {x : Byte} {m : LineMode} (h : lineModeOf x = some m) : m.code = x := by
  unfold lineModeOf at h
  split at h
  case h_5 => cases h
  all_goals
    cases h
    exact BitVec.eq_of_toNat_eq (Eq.symm ‹x.toNat = _›)

section
variable {s : State} {q : Port} {x m : Byte}

theorem reqCueConfig_accepted {src : GoSource} {mode : LineMode} (hown : s.cue.owner = some q)
    (hsrc : goSourceOf x = some src) (hmode : lineModeOf m = some mode) :
    reqCueConfig q x m s = (s.setCue { s.cue with source := src, mode := mode, rearm := none }, .ok [x, m]) := by
  rw [reqCueConfig, State.ownerOnly_owner hown, hsrc, hmode, ← GoSource.code_of_goSourceOf hsrc,
    ← LineMode.code_of_lineModeOf hmode]

theorem reqCueConfig_unread (hown : s.cue.owner = some q)
    (hbad : ∀ src mode, goSourceOf x = some src → lineModeOf m = some mode → False) :
    reqCueConfig q x m s = s.deny .badArgument := by
  rw [reqCueConfig, State.ownerOnly_owner hown]
  split
  next src mode hsrc hmode => exact (hbad src mode hsrc hmode).elim
  next => rfl

end

/-! ## CUE_ARM (R142) -/

/-- The entry a CUE_ARM goes to: the one it names, or the one the pointer is at. -/
def Cue.armPointer (c : Cue) (start : Option Byte) : Nat := (start.map fun b => b.toNat).getD c.pointer

theorem reqCueArm_eq {s : State} {q : Port} (hown : s.cue.owner = some q) (start : Option Byte) :
    reqCueArm q start s =
      if s.cue.state = .running then s.deny .busy
      else if start ≠ none ∧ s.cue.list.length < s.cue.armPointer start then s.deny .badArgument
      else (s.setCue (s.cue.armed (s.cue.armPointer start)),
        .ok [(s.cue.armed (s.cue.armPointer start)).state.code, byte (s.cue.armPointer start)]) := by
  refine (State.ownerOnly_owner hown _).trans (if_congr Iff.rfl rfl ?_)
  cases start with
  | none => simp only [Option.isSome_none, ne_eq, not_true, Bool.false_eq_true, false_and, if_false]; rfl
  | some b => simp only [Option.isSome_some, ne_eq, reduceCtorEq, not_false_eq_true, true_and]; rfl

/-! ## CUE_SKIP (R149) -/

theorem State.cueReadyOrEnd_of_lt {s : State} (h : s.cue.pointer < s.cue.list.length) :
    s.cueReadyOrEnd = s.setCue { s.cue with state := .ready } := if_pos h

theorem State.cueReadyOrEnd_of_le {s : State} {q : Port} (hown : s.cue.owner = some q)
    (h : s.cue.list.length ≤ s.cue.pointer) :
    s.cueReadyOrEnd = (s.setCue { s.cue with state := .done }).notify q .cueEnd .none := by
  rw [State.cueReadyOrEnd, if_neg (Nat.not_lt.mpr h), State.notifyOwner, State.setCue_cue, hown]
  rfl

/-- Where a skip moves the pointer: past its entry, and no further than the count. -/
def Cue.skipPointer (c : Cue) : Nat := if c.pointer < c.list.length then c.pointer + 1 else c.pointer

section
variable {s : State} {q : Port}

/-- A skip in READY or STALLED moves the pointer and leaves the rest to R149's check of the list's end. -/
theorem reqCueSkip_moves (hown : s.cue.owner = some q) (hst : s.cue.state = .ready ∨ s.cue.state = .stalled)
    {t : State} (ht : (s.setCue { s.cue with pointer := s.cue.skipPointer, stall := none }).cueReadyOrEnd = t) :
    reqCueSkip q s = (t, .ok [t.cue.state.code, byte t.cue.pointer]) := by
  rw [reqCueSkip, State.ownerOnly_owner hown, if_pos hst, ← ht]
  rfl

theorem reqCueSkip_resting (hown : s.cue.owner = some q) (hready : s.cue.state ≠ .ready)
    (hstalled : s.cue.state ≠ .stalled) : reqCueSkip q s = s.deny .busy := by
  rw [reqCueSkip, State.ownerOnly_owner hown, if_neg (not_or.mpr ⟨hready, hstalled⟩)]

theorem reqCueSkip_toEntry (hown : s.cue.owner = some q) (hst : s.cue.state = .ready ∨ s.cue.state = .stalled)
    (hk : s.cue.skipPointer < s.cue.list.length) :
    reqCueSkip q s = (s.setCue { s.cue with pointer := s.cue.skipPointer, state := .ready, stall := none },
      .ok [1, byte s.cue.skipPointer]) :=
  reqCueSkip_moves hown hst (State.cueReadyOrEnd_of_lt (s := s.setCue _) hk)

theorem reqCueSkip_toEnd (hown : s.cue.owner = some q) (hst : s.cue.state = .ready ∨ s.cue.state = .stalled)
    (hk : s.cue.list.length ≤ s.cue.skipPointer) :
    reqCueSkip q s =
      ((s.setCue { s.cue with pointer := s.cue.skipPointer, state := .done, stall := none }).notify q .cueEnd .none,
        .ok [4, byte s.cue.skipPointer]) :=
  reqCueSkip_moves hown hst (State.cueReadyOrEnd_of_le (s := s.setCue _) hown hk)

end

/-! ## The requests executed -/

section
variable {s : State} {q : Port} (htakes : s.Takes q)
include htakes

/-- R140: the engine goes to a port when it has no owner, or one whose link is down. -/
theorem exec_cueOwn_free (hfree : s.cue.owner = none) (tag : Byte) :
    exec (.cueOwn q tag) s = s.cueAnswer q tag { s.cue with owner := some q } 0xE2 [0] :=
  State.request_leavesCue htakes (reqCueOwn_free (s := s.touched q) hfree)

theorem exec_cueOwn_owned {o : Port} (ho : s.cue.owner = some o) (tag : Byte) :
    exec (.cueOwn q tag) s =
      if o = q then s.cueAnswer q tag s.cue 0xE2 [0]
      else if (s.port o).link = .down then s.cueAnswer q tag { s.cue with owner := some q } 0xE2 [0]
      else s.cueAnswer q tag s.cue 0xE2 [5, portByte o] := by
  split_ifs with hsame hdown
  · subst hsame
    exact State.request_keepsCue htakes (reqCueOwn_own (s := s.touched o) ho)
  all_goals have hlink : ((s.touched q).port o).link = (s.port o).link := by rw [State.touched_port, if_neg hsame]
  · exact State.request_leavesCue htakes (reqCueOwn_ownerDown (s := s.touched q) ho hsame (hlink.trans hdown))
  · exact State.request_keepsCue htakes (reqCueOwn_ownerUp (s := s.touched q) ho hsame (hlink ▸ hdown))

variable (hown : s.cue.owner = some q)
include hown

/-- R139: the list is cleared unless the engine runs. -/
theorem exec_cueClear_owner (tag : Byte) :
    exec (.cueClear q tag) s =
      if s.cue.state = .running then s.cueAnswer q tag s.cue 0xE1 [6]
      else s.cueAnswer q tag
        { s.cue with list := [], pointer := 0, state := .off, firedIndex := none, stall := none } 0xE1 [0] := by
  split_ifs with hrun
  · exact State.request_owner htakes hown _ (c := s.cue) (r := .no .busy) (if_pos hrun)
  · exact State.request_owner htakes hown _ (r := .ok []) (if_neg hrun)

/-- R142: the engine is armed unless it runs or the request names an entry past the count. -/
theorem exec_cueArm_owner (tag : Byte) (start : Option Byte) :
    exec (.cueArm q tag start) s =
      if s.cue.state = .running then s.cueAnswer q tag s.cue 0xE5 [6]
      else if start ≠ none ∧ s.cue.list.length < s.cue.armPointer start then s.cueAnswer q tag s.cue 0xE5 [3]
      else s.cueAnswer q tag (s.cue.armed (s.cue.armPointer start)) 0xE5
        [0, (s.cue.armed (s.cue.armPointer start)).state.code, byte (s.cue.armPointer start)] := by
  have hchecks := reqCueArm_eq (s := s.touched q) hown start
  rw [State.touched_cue] at hchecks
  split_ifs at hchecks ⊢
  · exact State.request_keepsCue htakes hchecks
  · exact State.request_keepsCue htakes hchecks
  · exact State.request_leavesCue htakes hchecks

end

/-- Settles O47: any port but the owner meets the owner check of each edit; CUE_OWN goes by the owner and its link; and
each edit of the owner by its own checks, in their order. -/
theorem cueListAndEngineAreEdited : Obligations.CueListAndEngineAreEdited := by
  unfold Obligations.CueListAndEngineAreEdited
  intro s q tag htakes
  refine ⟨fun hother => ?notOwner, ?own, fun hown => ⟨fun i g a v f => ?write, exec_cueClear_owner htakes hown tag,
    ?disown, fun x m => ?config, exec_cueArm_owner htakes hown tag, ?off, fun hready hstalled => ?skipBusy,
    fun hst => ⟨fun hk => ?skipToEntry, fun hk => ?skipToEnd⟩⟩⟩
  case notOwner =>
    exact ⟨fun i g a v f => State.request_notOwner htakes hother _, State.request_notOwner htakes hother _,
      State.request_notOwner htakes hother _, fun x m => State.request_notOwner htakes hother _,
      fun j => State.request_notOwner htakes hother _, State.request_notOwner htakes hother _,
      State.request_notOwner htakes hother _, State.request_notOwner htakes hother _⟩
  case own =>
    split
    next hfree => exact exec_cueOwn_free htakes hfree tag
    next o ho => exact exec_cueOwn_owned htakes ho tag
  case write =>
    split_ifs with hrun
    · exact State.request_keepsCue htakes (reqCueWrite_running (s := s.touched q) hown hrun)
    split
    next h act fol hg ha hf =>
      split
      next hout =>
        exact State.request_keepsCue htakes (reqCueWrite_outOfRange (s := s.touched q) hown hrun hg ha hf hout)
      next hin =>
        exact State.request_leavesCue htakes (reqCueWrite_accepted (s := s.touched q) hown hrun hg ha hf hin)
    next hbad => exact State.request_keepsCue htakes (reqCueWrite_unread (s := s.touched q) hown hrun hbad)
  case disown => exact State.request_owner htakes hown _ (r := .ok []) rfl
  case config =>
    split
    next src mode hsrc hmode =>
      exact State.request_leavesCue htakes (reqCueConfig_accepted (s := s.touched q) hown hsrc hmode)
    next hbad => exact State.request_keepsCue htakes (reqCueConfig_unread (s := s.touched q) hown hbad)
  case off => exact State.request_owner htakes hown _ (r := .ok []) rfl
  case skipBusy =>
    exact State.request_keepsCue htakes (reqCueSkip_resting (s := s.touched q) hown hready hstalled)
  case skipToEntry =>
    exact State.request_leavesCue htakes (reqCueSkip_toEntry (s := s.touched q) hown hst hk)
  case skipToEnd =>
    exact congrArg Host.Outcome.next (State.request_effect htakes 0x68 tag _ _ (.ok [4, byte s.cue.skipPointer])
      (reqCueSkip_toEnd (s := s.touched q) hown hst hk))

end Sys2Proof.Machine
end

section
/-!
The enable of a port (O13, R159 and R160): which stops a port's lapsed enable sends, what ENABLE leaves and answers, and
the expiry of the enable window.
-/
namespace Sys2Proof.Machine

/-! ## Stops of the groups a port holds (R160) -/

theorem State.stopGroup_holder (s : State) (g : GroupId) (c : StopCause) (x : GroupId) :
    ((s.stopGroup g c).group x).holder = (s.group x).holder := by
  by_cases hx : x = g
  · subst hx
    rw [State.stopGroup_group, State.stopOutcome]
    split_ifs <;> rfl
  · rw [State.stopGroup_other s hx]

/-- The groups a port holds can be picked out beforehand, since no stop changes a holder. -/
theorem State.stopsIfHeld_eq_filter (q : Port) (c : StopCause) (l : List GroupId) (s : State) :
    l.foldl (fun t g => if (t.group g).holder = some q then t.stopGroup g c else t) s =
      (l.filter fun g => (s.group g).holder == some q).foldl (fun t g => t.stopGroup g c) s := by
  induction l generalizing s with
  | nil => rfl
  | cons g l ih =>
    rw [List.foldl_cons, ih, List.filter_cons]
    by_cases hheld : (s.group g).holder = some q
    · simp only [if_pos hheld, State.stopGroup_holder, if_pos (beq_iff_eq.mpr hheld), List.foldl_cons]
    · rw [if_neg hheld, if_neg (mt beq_iff_eq.mp hheld)]

theorem State.stopHeld_eq (s : State) (q : Port) (c : StopCause) :
    s.stopHeld q c = (allGroups.filter fun g => (s.group g).holder == some q).foldl (fun t g => t.stopGroup g c) s :=
  State.stopsIfHeld_eq_filter q c allGroups s

/-- Of the groups a port holds, the stops reach those MOVING at the outset. -/
theorem State.stopHeld_eq_moving (s : State) (q : Port) (c : StopCause) :
    s.stopHeld q c =
      (allGroups.filter fun g => (s.group g).holder == some q && (s.group g).state == .moving).foldl
        (fun t g => t.stopGroup g c) s := by
  rw [State.stopHeld_eq, State.stopGroups_eq_filter c (allGroups_nodup.filter _), List.filter_filter]
  simp only [Bool.and_comm]

theorem State.stopHeld_group (s : State) (q : Port) (c : StopCause) (g : GroupId) :
    (s.stopHeld q c).group g = if (s.group g).holder = some q then s.stopOutcome c g else s.group g := by
  have hmem : g ∈ allGroups.filter (fun k => (s.group k).holder == some q) ↔ (s.group g).holder = some q := by
    simp only [List.mem_filter, beq_iff_eq, allGroups, List.mem_finRange, true_and]
  simp only [State.stopHeld_eq, State.stopGroups_group c (allGroups_nodup.filter _), hmem]

theorem State.stopHeld_group_of_moving {s : State} {q : Port} {g : GroupId} (hheld : (s.group g).holder = some q)
    (hmoving : (s.group g).state = .moving) (c : StopCause) :
    (s.stopHeld q c).group g =
      if s.AllStill g then ((s.group g).stopped c).atRest else (s.group g).stopped c := by
  rw [State.stopHeld_group, if_pos hheld, State.stopOutcome, if_pos hmoving]

theorem State.stopHeld_group_of_not_moving {s : State} {q : Port} {g : GroupId}
    (h : ¬ ((s.group g).holder = some q ∧ (s.group g).state = .moving)) (c : StopCause) :
    (s.stopHeld q c).group g = s.group g := by
  rw [State.stopHeld_group]
  split_ifs with hheld
  · exact if_neg fun hmoving => h ⟨hheld, hmoving⟩
  · rfl

theorem State.touched_stopHeld (s : State) (q r : Port) (c : StopCause) :
    (s.touched q).stopHeld r c = (s.stopHeld r c).touched q :=
  List.foldl_hom (State.touched · q) fun t g => by
    simp only [State.touched_group, State.touched_stopGroup, apply_ite (State.touched · q)]

/-! ## The enable of a port (R159, R160) -/

theorem State.setEnable_true (s : State) (q : Port) :
    s.setEnable q true = s.setPort q { s.port q with enable := true, enableWindow := some (s.now + 200) } := rfl

theorem State.setEnable_false_of_active {s : State} {q : Port} (h : (s.port q).enable = true) :
    s.setEnable q false = s.dropEnable q := if_pos h

theorem State.setEnable_false_of_inactive {s : State} {q : Port} (h : (s.port q).enable = false) :
    s.setEnable q false = s := if_neg (ne_true_of_eq_false h)

/-- The stops of a lapsed enable leave the ports as the lapse made them. -/
theorem State.dropEnable_port (s : State) (q : Port) :
    (s.dropEnable q).port q = { s.port q with enable := false, enableWindow := none } := by
  have hports := ((s.setPort q { s.port q with enable := false, enableWindow := none }).stopHeld_moves q
    .enable).runs.ports
  rw [State.port, State.dropEnable, hports]
  exact (State.setPort_port ..).trans (if_pos rfl)

/-- ENABLE leaves the enable at the level it names, which is what it answers. -/
theorem State.setEnable_enable (s : State) (q : Port) (b : Bool) : ((s.setEnable q b).port q).enable = b := by
  cases b with
  | true => simp only [State.setEnable_true, State.setPort_port, if_true]
  | false =>
    cases h : (s.port q).enable with
    | true => rw [State.setEnable_false_of_active h, State.dropEnable_port]
    | false => rw [State.setEnable_false_of_inactive h, h]

/-! ### The enable after an arrival -/

theorem State.touched_dropEnable (s : State) (q : Port) :
    (s.touched q).dropEnable q = (s.dropEnable q).touched q := by
  rw [State.dropEnable, State.dropEnable, ← State.touched_stopHeld]
  simp [State.touched, -State.touched_port]

theorem State.touched_setEnable (s : State) (q : Port) (b : Bool) :
    (s.touched q).setEnable q b = (s.setEnable q b).touched q := by
  cases b with
  | true => simp [State.setEnable_true, State.touched, -State.touched_port]
  | false =>
    have hport : ((s.touched q).port q).enable = (s.port q).enable := by simp only [State.touched_port, if_true]
    cases h : (s.port q).enable with
    | true =>
      rw [State.setEnable_false_of_active h, State.setEnable_false_of_active (hport.trans h),
        State.touched_dropEnable]
    | false => rw [State.setEnable_false_of_inactive h, State.setEnable_false_of_inactive (hport.trans h)]

/-! ## ENABLE and the expiry of its window -/

theorem reqEnable_eq {level : Byte} {b : Bool} (h : yesNoOf level = some b) (q : Port) (s : State) :
    reqEnable q level s = (s.setEnable q b, .ok [boolByte b]) := by
  simp only [reqEnable, h, State.setEnable_enable]

theorem yesNoOf_eq_none {b : Byte} (h0 : b ≠ 0) (h1 : b ≠ 1) : yesNoOf b = none := by
  unfold yesNoOf
  split
  next h => exact absurd (BitVec.eq_of_toNat_eq h) h0
  next h => exact absurd (BitVec.eq_of_toNat_eq h) h1
  next => rfl

/-- R159 for a level of its coding: the enable is set to it, and the response tells it. -/
theorem exec_enable_eq {s : State} {q : Port} {level : Byte} {b : Bool} (htakes : s.Takes q)
    (h : yesNoOf level = some b) (tag : Byte) :
    exec (.enable q tag level) s = .next ((s.setEnable q b).answered q 0x82 tag [0, boolByte b]).flushPrompts :=
  congrArg Host.Outcome.next (State.request_effect htakes 0x02 tag _ _ (.ok [boolByte b]) (by
    rw [reqEnable_eq h, State.touched_setEnable]))

theorem State.enableExpiry_of_due {s : State} {q : Port} {d : Nat} (hwindow : (s.port q).enableWindow = some d)
    (hdue : d ≤ s.now) : s.enableExpiry q = s.dropEnable q := by
  rw [State.enableExpiry, hwindow]
  exact if_pos (decide_eq_true hdue)

/-- Settles O13: ENABLE by its level, the window's expiry as the same lapse, and the stops of a lapse group by group. -/
theorem enableIsHeldAndLapses : Obligations.EnableIsHeldAndLapses := by
  unfold Obligations.EnableIsHeldAndLapses
  refine ⟨fun s q tag level htakes => ⟨?level1, ?level0Inactive, ?otherLevel, ?level0Active⟩, ?expiry,
    fun s q g => ⟨s.stopHeld_eq_moving q .enable, ⟨fun ⟨hheld, hmoving⟩ => ?_, fun h => ?_⟩,
      s.stopHeld_moves q .enable⟩⟩
  case level1 =>
    rintro rfl
    rw [exec_enable_eq (b := true) htakes rfl, State.setEnable_true, State.answered_quiet]
    · rfl
    · exact htakes.quiet
  case level0Inactive =>
    rintro rfl hinactive
    rw [exec_enable_eq (b := false) htakes rfl, State.setEnable_false_of_inactive hinactive,
      State.answered_quiet htakes.quiet]
    rfl
  case otherLevel =>
    intro h0 h1
    exact congrArg Host.Outcome.next (State.request_denies htakes 0x02 tag _ .badArgument (by
      simp only [reqEnable, yesNoOf_eq_none h0 h1]))
  case level0Active =>
    rintro rfl hactive
    rw [exec_enable_eq (b := false) htakes rfl, State.setEnable_false_of_active hactive]
    rfl
  case expiry =>
    intro s q d hrunning hwindow hdue
    rw [← State.dropEnable, ← State.enableExpiry_of_due hwindow hdue]
    exact congrArg Host.Outcome.next (State.event_running hrunning _)
  · exact State.stopHeld_group_of_moving hheld hmoving .enable
  · exact State.stopHeld_group_of_not_moving h .enable

end Sys2Proof.Machine
end

section
/-!
The requests of the Notice Unit and the WARN line (O15, O16, R170 and R172 to R174): what NOTICE_READ, NOTICE_MASK and
WARN_CONFIG leave and answer, and the causes of WARN read off the tables.
-/
namespace Sys2Proof.Machine

/-! ## NOTICE_READ (R170) -/

/-- A notice set replaced by one that prompts nothing raises no prompt. -/
theorem State.setNotice_quiet {s : State} (h : s.Quiet) (q : Port) {n : NoticeSet} (hn : n.prompt = false) :
    (s.setNotice q n).Quiet := fun x => by
  rw [State.setNotice_notice]
  split_ifs
  · exact hn
  · exact h x

/-- R170: a page is 14 records, and the marker is cleared when they were all there was. -/
theorem NoticeSet.afterRead_eq (n : NoticeSet) : n.afterRead =
    { n with records := n.records.drop 14, lost := if n.records.length ≤ 14 then false else n.lost } := by
  have hempty : (n.records.drop 14).isEmpty = decide (n.records.length ≤ 14) := by
    rw [Bool.eq_iff_iff, List.isEmpty_iff, List.drop_eq_nil_iff, decide_eq_true_iff]
  rw [NoticeSet.afterRead, Config.noticePage, hempty]
  by_cases hall : n.records.length ≤ 14 <;> simp [hall]

/-- What NOTICE_READ answers: the number of records left, the lost marker as it stood, and the records returned. -/
def NoticeSet.page (n : NoticeSet) : List Byte :=
  byte (n.records.length - 14) :: boolByte n.lost :: (n.records.take 14).flatMap NoticeRec.bytes

theorem reqNoticeRead_eq (q : Port) (s : State) :
    reqNoticeRead q s = (s.setNotice q (s.notice q).afterRead, .ok (s.notice q).page) := by
  simp only [reqNoticeRead, NoticeSet.page, Config.noticePage, List.length_drop]

/-! ## NOTICE_MASK (R172) -/

/-- The kinds of codes 17, 22, 23 and 25 are the four of R172. -/
theorem unsuppressible_getLsbD_iff (i : Fin 32) :
    unsuppressible.getLsbD i = true ↔ i = 16 ∨ i = 21 ∨ i = 22 ∨ i = 24 := by
  revert i
  decide

/-- Two bit vectors share a bit exactly when their conjunction is not zero. -/
theorem and_ne_zero_iff_exists_bit {w : Nat} (x y : BitVec w) :
    x &&& y ≠ 0 ↔ ∃ i : Fin w, x.getLsbD i = true ∧ y.getLsbD i = true := by
  constructor
  · intro hne
    by_contra! hnone
    refine hne (BitVec.eq_of_getLsbD_eq fun i hi => ?_)
    simpa using hnone ⟨i, hi⟩
  · rintro ⟨i, hx, hy⟩ hzero
    have hbit : (x &&& y).getLsbD i = false := by rw [hzero]; exact BitVec.getLsbD_zero
    rw [BitVec.getLsbD_and, hx, hy] at hbit
    cases hbit

/-- A mask with bit 31 or the bit of one of the four kinds, bit by bit. -/
theorem mask_refused_iff (kinds : BitVec 32) : (kinds.msb = true ∨ kinds &&& unsuppressible ≠ 0) ↔
    kinds.getLsbD 31 = true ∨ kinds.getLsbD 16 = true ∨ kinds.getLsbD 21 = true ∨ kinds.getLsbD 22 = true ∨
      kinds.getLsbD 24 = true := by
  rw [and_ne_zero_iff_exists_bit, BitVec.msb_eq_getLsbD_last]
  simp only [unsuppressible_getLsbD_iff, and_or_left, exists_or, exists_eq_right]
  rfl

theorem reqNoticeMask_eq (q : Port) (kinds : BitVec 32) (s : State) : reqNoticeMask q kinds s =
    if kinds.getLsbD 31 ∨ kinds.getLsbD 16 ∨ kinds.getLsbD 21 ∨ kinds.getLsbD 22 ∨ kinds.getLsbD 24 then
      s.deny .badArgument
    else (s.setNotice q { s.notice q with suppress := kinds }, .ok (bytes4 kinds)) :=
  if_congr (mask_refused_iff kinds) rfl rfl

/-- Settles O15: NOTICE_READ returns a page and keeps the rest; NOTICE_MASK is refused by the bits of R172, and
otherwise stored. Neither raises a prompt. -/
theorem noticesAreReadAndMasked : Obligations.NoticesAreReadAndMasked := by
  unfold Obligations.NoticesAreReadAndMasked
  refine ⟨fun s q tag htakes => ?_, fun s q tag kinds htakes => ?_⟩
  · intro n
    rw [← NoticeSet.afterRead_eq]
    exact congrArg Host.Outcome.next (State.request_calm htakes 0x03 tag _ (s.setNotice q n.afterRead) (.ok n.page)
      (State.setNotice_quiet htakes.quiet q (htakes.quiet q)) (reqNoticeRead_eq q (s.touched q)))
  · have hchecks := reqNoticeMask_eq q kinds (s.touched q)
    split_ifs at hchecks ⊢
    · exact congrArg Host.Outcome.next (State.request_denies htakes 0x04 tag _ .badArgument hchecks)
    · exact congrArg Host.Outcome.next (State.request_calm htakes 0x04 tag _
        (s.setNotice q { s.notice q with suppress := kinds }) (.ok (bytes4 kinds))
        (State.setNotice_quiet htakes.quiet q (htakes.quiet q)) hchecks)

/-! ## WARN_CONFIG (R174) -/

theorem polarityOf_code {b : Byte} {p : Polarity} (h : polarityOf b = some p) : p.code = b := by
  unfold polarityOf at h
  split at h <;> cases h
  next hb => exact (BitVec.eq_of_toNat_eq hb).symm
  next hb => exact (BitVec.eq_of_toNat_eq hb).symm

theorem polarityOf_eq_none {b : Byte} (h : 2 ≤ b.toNat) : polarityOf b = none := by
  unfold polarityOf
  split
  next hb => omega
  next hb => omega
  next => rfl

/-- Five enables are coded as the byte they were read from. -/
theorem causeByte_bits {b : Byte} (h : b.toNat < 32) :
    causeByte (b.getLsbD 0) (b.getLsbD 1) (b.getLsbD 2) (b.getLsbD 3) (b.getLsbD 4) = b := by
  revert b
  decide

/-- The settings a WARN_CONFIG asks for (Table 10-3). -/
def warnSettings (enables : Byte) (p : Polarity) : Warn :=
  ⟨enables.getLsbD 0, enables.getLsbD 1, enables.getLsbD 2, enables.getLsbD 3, enables.getLsbD 4, p⟩

theorem warnOf_eq_some {enables polarity : Byte} {p : Polarity} (he : enables.toNat < 32)
    (hp : polarityOf polarity = some p) : warnOf enables polarity = some (warnSettings enables p) := by
  rw [warnOf, hp]
  exact if_pos he

theorem warnOf_eq_none {enables polarity : Byte} (h : 32 ≤ enables.toNat ∨ 2 ≤ polarity.toNat) :
    warnOf enables polarity = none := by
  rcases h with he | hp
  · rw [warnOf]
    cases polarityOf polarity with
    | none => rfl
    | some p => exact if_neg (Nat.not_lt.mpr he)
  · rw [warnOf, polarityOf_eq_none hp]

/-- The causes that hold and whether WARN is active, as WARN_CONFIG answers them. -/
def State.warnBytes (s : State) : List Byte :=
  [causeByte s.overloadHolds s.faultHolds s.holdHolds s.stopUnit.estop s.runawayHolds, boolByte s.warnActive]

/-- The two bytes of an accepted WARN_CONFIG come back as they were sent. -/
theorem reqWarnConfig_eq {enables polarity : Byte} {p : Polarity} (he : enables.toNat < 32)
    (hp : polarityOf polarity = some p) (s : State) :
    reqWarnConfig enables polarity s =
      (s.setWarn (warnSettings enables p),
        .ok (enables :: polarity :: (s.setWarn (warnSettings enables p)).warnBytes)) := by
  simp only [reqWarnConfig, warnOf_eq_some he hp, warnSettings, causeByte_bits he, polarityOf_code hp, State.warnBytes]

/-! ## The causes of WARN (Table 9-3) -/

theorem any_toList_iff {α : Type} {n : Nat} (v : Vector α n) (f : α → Bool) :
    v.toList.any f = true ↔ ∃ i : Fin n, f v[i] = true := by
  rw [Vector.any_toList, Vector.any_eq_true, Fin.exists_iff]
  rfl

theorem State.overloadHolds_iff (s : State) :
    s.overloadHolds = true ↔ ∃ p, (s.point p).load.overload.active = true := any_toList_iff ..

theorem State.faultHolds_iff (s : State) : s.faultHolds = true ↔ ∃ g, (s.group g).state = .fault := by
  simp only [State.faultHolds, any_toList_iff, beq_iff_eq, State.group]

theorem State.runawayHolds_iff (s : State) : s.runawayHolds = true ↔ ∃ p, (s.point p).stop.runaway = true :=
  any_toList_iff ..

theorem State.holdHolds_iff (s : State) : s.holdHolds = true ↔ ∃ q, s.stopUnit.hold.get q = true := by
  rw [State.holdHolds, PerPort.some, Bool.or_eq_true, Bool.or_eq_true]
  constructor
  · rintro ((ha | hb) | hc)
    exacts [⟨.a, ha⟩, ⟨.b, hb⟩, ⟨.c, hc⟩]
  · rintro ⟨q, hq⟩
    cases q with
    | a => exact .inl (.inl hq)
    | b => exact .inl (.inr hq)
    | c => exact .inr hq

theorem State.warnActive_iff (s : State) : s.warnActive = true ↔
    (s.warn.overload = true ∧ ∃ p, (s.point p).load.overload.active = true) ∨
    (s.warn.fault = true ∧ ∃ g, (s.group g).state = .fault) ∨
    (s.warn.hold = true ∧ ∃ q, s.stopUnit.hold.get q = true) ∨
    (s.warn.estop = true ∧ s.stopUnit.estop = true) ∨
    (s.warn.runaway = true ∧ ∃ p, (s.point p).stop.runaway = true) := by
  simp only [State.warnActive, Bool.or_eq_true, Bool.and_eq_true, State.overloadHolds_iff, State.faultHolds_iff,
    State.holdHolds_iff, State.runawayHolds_iff, or_assoc]

/-- R173: out of reset the line is high while WARN is active under ACTIVE_HIGH, and while it is not under ACTIVE_LOW. -/
theorem State.warnLine_eq_high_iff {s : State} (hrunning : s.inReset = false) :
    s.warnLine = .high ↔ (s.warnActive = true ↔ s.warn.polarity = .activeHigh) := by
  rw [State.warnLine, if_neg (ne_true_of_eq_false hrunning)]
  cases s.warn.polarity with
  | activeHigh => cases s.warnActive <;> simp
  | activeLow => cases s.warnActive <;> simp

/-- Settles O16: WARN_CONFIG by its two codings, WARN as the disjunction of its enabled causes, and the line by its
polarity. -/
theorem warnFollowsItsCauses : Obligations.WarnFollowsItsCauses := by
  unfold Obligations.WarnFollowsItsCauses
  refine ⟨fun s q tag enables polarity htakes => ⟨fun he p hp => ?accepted, fun hbad => ?refused⟩,
    fun s hrunning => ⟨s.warnActive_iff, State.warnLine_eq_high_iff hrunning⟩⟩
  case accepted =>
    exact congrArg Host.Outcome.next (State.request_calm htakes 0x05 tag _ (s.setWarn (warnSettings enables p))
      (.ok (enables :: polarity :: (s.setWarn (warnSettings enables p)).warnBytes)) htakes.quiet
      (reqWarnConfig_eq he hp (s.touched q)))
  case refused =>
    exact congrArg Host.Outcome.next (State.request_denies htakes 0x05 tag _ .badArgument (by
      simp only [reqWarnConfig, warnOf_eq_none hbad]))

end Sys2Proof.Machine
end

section
/-!
The machine as a sequence of edits (O50 to O55 and O57 to O60). An edit is one small change between two states in both
of which the laws of the device are to hold; a guard of an edit says, of the records it changes, what those laws need.
Every operation of the model is a sequence of edits, and every edit keeps every law, so every step keeps every law.
-/
namespace Sys2Proof.Machine

/-! ## The laws, record by record -/

/-- PortsSound for the record of one port. -/
structure PortRec.Sound (r : PortRec) : Prop where
  queue : r.tx.length ≤ 6
  errors : r.errors ≤ 65535
  overruns : r.overruns ≤ 65535
  gapTimer : r.receiver = .hunting ↔ r.gapTimer = none
  linkTimer : r.link = .down ↔ r.linkTimer = none
  window : r.enable = false ↔ r.enableWindow = none
  enableUp : r.enable = true → r.link = .up
  downIdle : r.link = .down → r.tx = []

theorem State.portsSound_iff (s : State) : s.PortsSound ↔ ∀ q, (s.port q).Sound :=
  ⟨fun h q => ⟨h.queue q, h.errors q, h.overruns q, h.gapTimer q, h.linkTimer q, h.window q, h.enableUp q, h.downIdle q⟩,
    fun h => ⟨fun q => (h q).queue, fun q => (h q).errors, fun q => (h q).overruns, fun q => (h q).gapTimer,
      fun q => (h q).linkTimer, fun q => (h q).window, fun q => (h q).enableUp, fun q => (h q).downIdle⟩⟩

/-- NoticesSound for one notice set, but for its prompt, which stands while an event is taken. -/
structure NoticeSet.Sound (n : NoticeSet) : Prop where
  size : n.records.length ≤ 32
  distinct : (n.records.map fun r => (r.kind, r.subject)).Nodup
  counts : ∀ r ∈ n.records, 1 ≤ r.count ∧ r.count ≤ 255
  suppress : n.suppresses .groupFault = false ∧ n.suppresses .runaway = false ∧ n.suppresses .estop = false ∧
    n.suppresses .mainsTripped = false

/-- The notice sets within their laws. -/
def State.NoticesKept (s : State) : Prop := ∀ q, (s.notice q).Sound

theorem State.noticesSound_iff (s : State) : s.NoticesSound ↔ s.NoticesKept ∧ s.Quiet :=
  ⟨fun h => ⟨fun q => ⟨h.size q, h.distinct q, h.counts q, h.suppress q⟩, h.quiet⟩,
    fun ⟨h, hquiet⟩ => ⟨fun q => (h q).size, fun q => (h q).distinct, fun q => (h q).counts, fun q => (h q).suppress,
      hquiet⟩⟩

/-- The ranges of Table 4-5 (R82). -/
structure Bands.InRange (b : Bands) : Prop where
  pause : 2 ≤ b.pause ∧ b.pause ≤ 100
  resume : b.resume + 1 ≤ b.pause
  trip : b.pause + 10 ≤ b.trip ∧ b.trip ≤ 500
  share : 5 ≤ b.share ∧ b.share ≤ 50
  tolerance : 5 ≤ b.tolerance ∧ b.tolerance ≤ 200

/-- The ranges of a point's stop lead, soft limits and trim (R102, R2). -/
structure PointRec.InRange (r : PointRec) : Prop where
  stopLead : r.stopLead ≤ 250
  softLimits : -1000 ≤ r.softMin ∧ r.softMin + 100 ≤ r.softMax ∧ r.softMax ≤ 66535
  trim : -1000 ≤ r.trim ∧ r.trim ≤ 1000

theorem State.rangesSound_iff (s : State) : s.RangesSound ↔
    (∀ g, (s.group g).bands.InRange ∧ ∀ m ∈ (s.group g).members, m.settle ≤ 4) ∧ ∀ p, (s.point p).InRange :=
  ⟨fun h => ⟨fun g => ⟨⟨h.pause g, h.resume g, h.trip g, h.share g, h.tolerance g⟩, h.settle g⟩,
      fun p => ⟨h.stopLead p, h.softLimits p, h.trim p⟩⟩,
    fun ⟨hg, hp⟩ => ⟨fun g => (hg g).1.pause, fun g => (hg g).1.resume, fun g => (hg g).1.trip, fun g => (hg g).1.share,
      fun g => (hg g).1.tolerance, fun g => (hg g).2, fun p => (hp p).stopLead, fun p => (hp p).softLimits,
      fun p => (hp p).trim⟩⟩

/-- The counters of a slot of a state (R5, R7, R8). -/
def SlotRec.Counted (r : SlotRec) : Prop :=
  (r.state = .empty → r.presence ≤ 3 ∧ r.miss = 0) ∧ (r.state ≠ .empty → r.presence = 4 ∧ r.miss ≤ 7)

theorem State.countersSound_iff (s : State) :
    s.CountersSound ↔ (∀ n, (s.slot n).Counted) ∧ s.bus.framePos < s.bus.epoch.frames :=
  ⟨fun h => ⟨fun n => ⟨h.emptyPresence n, h.otherPresence n⟩, h.framePos⟩,
    fun ⟨h, hpos⟩ => ⟨fun n => (h n).1, fun n => (h n).2, hpos⟩⟩

/-! ## What an edit may do to a record -/

/-- An edit of a port: its record stays sound, and an enable that drives a MOVING group stays ACTIVE on an UP link. -/
structure State.PortEdit (s : State) (q : Port) (r : PortRec) : Prop where
  sound : (s.port q).Sound → r.Sound
  enableUp : ((s.port q).enable = true → (s.port q).link = .up) → r.enable = true → r.link = .up
  drive : ((s.port q).link = .up → (s.port q).enable = true → r.link = .up ∧ r.enable = true) ∨
    ∀ g, (s.group g).holder = some q → (s.group g).state ≠ .moving

/-- An edit of a point that keeps what it is bound to and which group it is in, and its soft limits while the group is
MOVING or STOPPING. -/
structure PointRec.EditTo (active : Bool) (r r' : PointRec) : Prop where
  group : r'.group = r.group
  boundSlot : r'.boundSlot = r.boundSlot
  identity : r'.identity = r.identity
  raw : r'.raw = r.raw
  load : r.load.Sound → r'.load.Sound
  ranges : r.InRange → r'.InRange
  limits : active = true → r'.softMin = r.softMin ∧ r'.softMax = r.softMax

theorem PointRec.EditTo.refl (active : Bool) (r : PointRec) : r.EditTo active r :=
  ⟨rfl, rfl, rfl, rfl, id, id, fun _ => ⟨rfl, rfl⟩⟩

/-- An edit of a slot that keeps its state, identity and point. -/
structure SlotRec.EditTo (r r' : SlotRec) : Prop where
  state : r'.state = r.state
  point : r'.point = r.point
  identity : r'.identity = r.identity
  counted : r.Counted → r'.Counted
  indications : r.state ≠ .bound → r.candidate = none ∧ r.accepted = none → r'.candidate = none ∧ r'.accepted = none

theorem SlotRec.EditTo.refl (r : SlotRec) : r.EditTo r := ⟨rfl, rfl, rfl, id, fun _ => id⟩

/-- An edit of a group that sets nothing in motion: it keeps the list of points, the targets and the kind of the move, and
a MOVING or STOPPING group keeps its holder. -/
structure GroupRec.EditTo (r r' : GroupRec) : Prop where
  points : r'.members.map Member.point = r.members.map Member.point
  source : ∀ m' ∈ r'.members, ∃ m ∈ r.members,
    m.point = m'.point ∧ m.target = m'.target ∧ (m.settle ≤ 4 → m'.settle ≤ 4)
  bands : r.bands.InRange → r'.bands.InRange
  kind : r'.kind = r.kind
  moving : r'.state = .moving → r.state = .moving
  active : r'.state.active = true → r.state.active = true
  holder : r'.state.active = true → r'.holder = r.holder ∨ r.holder = none
  orphaned : (r.orphaned = true → r.holder ≠ none) → r'.orphaned = true → r'.holder ≠ none

/-- An edit of the Stop Unit: the mains opens and a hold comes only over groups at rest, and an ACTIVE ESTOP view finds the
mains TRIPPED. -/
structure State.StopUnitEdit (s : State) (u : StopUnit) : Prop where
  mains : u.mains = .tripped → s.stopUnit.mains = .tripped ∨ ∀ g, (s.group g).state.active = false
  estop : (s.stopUnit.estop = true → s.stopUnit.mains = .tripped) → u.estop = true → u.mains = .tripped
  hold : u.hold ≠ ⟨false, false, false⟩ →
    s.stopUnit.hold ≠ ⟨false, false, false⟩ ∨ ∀ g, (s.group g).state ≠ .moving

/-- What the checks of a START have found when its move begins (R89 to R93). -/
structure State.MayBegin (s : State) (g : GroupId) (kind : MoveKind) (applied : Option Int) : Prop where
  held : ∃ q, (s.group g).holder = some q ∧ (s.port q).enable = true
  estop : s.stopUnit.estop = false
  mains : s.stopUnit.mains = .closed
  hold : s.stopUnit.hold = ⟨false, false, false⟩
  targets : kind = .target → ∃ d, applied = some d ∧ ∀ m ∈ (s.group g).members, ∃ x, s.pos m.point = some x ∧
    (s.point m.point).softMin ≤ x + d ∧ x + d ≤ (s.point m.point).softMax

/-- R72's premise: the group is IDLE, its new list has at most 24 points without repeats, and none of them is in another
group. -/
structure State.MayReplace (s : State) (g : GroupId) (ps : List PointId) : Prop where
  idle : (s.group g).state = .idle
  size : ps.length ≤ 24
  distinct : ps.Nodup
  free : ∀ p ∈ ps, ∀ k, (s.point p).group = some k → k = g

/-- An identity that a point may be given: valid and held by no other point (R14). -/
def State.MayPatch (s : State) (p : PointId) (i : Option Identity) : Prop :=
  ∀ x, i = some x → x ≠ 0x00000000 ∧ x ≠ 0xFFFFFFFF ∧ ∀ q, (s.point q).identity = some x → q = p

/-! ## Edits that change binding -/

/-- A slot record that R6 binds to a point. -/
def SlotRec.boundTo (r : SlotRec) (p : PointId) : SlotRec :=
  { r with state := .bound, point := some p, candidate := none, accepted := none }

/-- A point record that R6 binds to a slot. -/
def PointRec.boundTo (r : PointRec) (n : SlotId) : PointRec :=
  { r with boundSlot := some n, lastSlot := some n, raw := none, load := r.load.restart, lastRun := none }

/-- A point record that R6 unbinds. -/
def PointRec.unbound (r : PointRec) : PointRec := { r with boundSlot := none, raw := none, load := r.load.restart }

/-- R6: both sides of a bind. -/
def State.linked (s : State) (p : PointId) (n : SlotId) : State :=
  (s.setSlot n ((s.slot n).boundTo p)).setPoint p ((s.point p).boundTo n)

theorem State.bind_eq (s : State) (p : PointId) (n : SlotId) :
    s.bind p n = (s.linked p n).notifyAll .nodeJoined (.point p) := rfl

/-! ## Edits -/

/-- One change of the state. -/
inductive State.Edit : State → State → Prop where
  | free (s : State) (pending : List Instr) (inReset : Bool) (now choice : Nat) (cue : Cue) (warn : Warn) :
      s.Edit { s with pending := pending, inReset := inReset, now := now, choice := choice, cue := cue, warn := warn }
  | release (s : State) (pending : List Instr) (line : Level) (estop : Bool) :
      s.Edit { State.reset with
        pending := pending, cue := Cue.reset line, stopUnit := { State.reset.stopUnit with estop := estop } }
  | notice (s : State) (q : Port) (n : NoticeSet) : ((s.notice q).Sound → n.Sound) → s.Edit (s.setNotice q n)
  | bus (s : State) (b : Bus) : (s.bus.framePos < s.bus.epoch.frames → b.framePos < b.epoch.frames) → s.Edit (s.setBus b)
  | port (s : State) (q : Port) (r : PortRec) : s.PortEdit q r → s.Edit (s.setPort q r)
  | points (s : State) (v : Vector PointRec 48) : (∀ p : PointId, (s.point p).EditTo (s.pointActive p) v[p]) →
      s.Edit { s with points := v }
  | slots (s : State) (v : Vector SlotRec 48) : (∀ n : SlotId, (s.slot n).EditTo v[n]) → s.Edit { s with slots := v }
  | group (s : State) (g : GroupId) (r : GroupRec) : (s.group g).EditTo r → s.Edit (s.setGroup g r)
  | begin (s : State) (g : GroupId) (kind : MoveKind) (d : Dir) (o : MoveOrigin) (applied : Option Int) :
      s.MayBegin g kind applied → s.Edit (s.begin g kind d o applied)
  | members (s : State) (g : GroupId) (ps : List PointId) : s.MayReplace g ps →
      s.Edit { s with groups := (s.replaceMembers g ps).groups, points := (s.replaceMembers g ps).points }
  | stopUnit (s : State) (u : StopUnit) : s.StopUnitEdit u → s.Edit (s.setStopUnit u)
  /-- the oldest join entry starts -/
  | joinStarts (s : State) (e : JoinEntry) (rest : List JoinEntry) : s.service.joinList = e :: rest →
      s.Edit ((s.setJoinList rest).setActive (some (s.joinJob e)))
  /-- entries leave the port service queue -/
  | queue (s : State) (l : List PortEntry) : l.Sublist s.service.portQueue → s.Edit (s.setPortQueue l)
  /-- an entry of the port service queue starts -/
  | portStarts (s : State) (e : PortEntry) (l : List PortEntry) : e ∈ s.service.portQueue →
      l.Sublist s.service.portQueue → s.Edit ((s.setPortQueue l).setActive (some e.job))
  /-- an entry joins the port service queue -/
  | enqueue (s : State) (e : PortEntry) : s.queueFull e.port = false →
      ((s.point e.point).load.Sound → ∀ c, e.write = some c → c.inRange = true) →
      s.Edit (s.setPortQueue (s.service.portQueue ++ [e]))
  /-- the active job goes on -/
  | job (s : State) (j j' : Job) : s.service.active = some j → j'.kind = j.kind → j'.slot = j.slot →
      j'.write = j.write → s.Edit (s.setActive (some j'))
  | jobEnds (s : State) : s.Edit (s.setActive none)
  /-- the values a CAL_WRITE has written are installed -/
  | installs (s : State) (j : Job) (p : PointId) (c : Cal) : s.service.active = some j → j.write = some c →
      s.Edit (s.setLoad p ((s.point p).load.install c))
  /-- a BOUND slot reports its position -/
  | position (s : State) (n : SlotId) (p : PointId) (x : Word16) : (s.slot n).point = some p →
      s.Edit (s.setPoint p { s.point p with raw := some x })
  /-- an unbound point at rest is given an identity, or none, with its limits -/
  | patch (s : State) (p : PointId) (i : Option Identity) (lo hi trim : Int) : (s.point p).boundSlot = none →
      s.pointActive p = false → s.MayPatch p i →
      ((s.point p).InRange → { s.point p with softMin := lo, softMax := hi, trim := trim : PointRec }.InRange) →
      s.Edit (s.setPoint p { s.point p with identity := i, softMin := lo, softMax := hi, trim := trim })
  /-- an EMPTY slot enters JOINING with its join entry -/
  | joins (s : State) (n : SlotId) : (s.slot n).state = .empty →
      s.Edit ((s.setSlot n { s.slot n with state := .joining, presence := Config.presenceFrames, miss := 0 }).setJoinList
        (s.service.joinList ++ [⟨n, .full⟩]))
  /-- a slot with no point is lost, and with it a job of its own -/
  | vanishes (s : State) (n : SlotId) (a : Option Job) : (s.slot n).state ≠ .empty →
      (s.slot n).state ≠ .bound ∨ (s.slot n).point = none →
      a = none ∨ (a = s.service.active ∧ ∀ j, a = some j → j.slot ≠ n) →
      s.Edit (((s.setSlot n (s.slot n).emptied).dropJoin n).setActive a)
  /-- a point leaves its slot, which becomes EMPTY or FOREIGN -/
  | unlinks (s : State) (p : PointId) (n : SlotId) (r : SlotRec) : (s.slot n).point = some p ∨ (s.point p).boundSlot = some n →
      r = (s.slot n).emptied ∨ r = (s.slot n).madeForeign →
      s.Edit (((s.setSlot n r).dropJoin n).setPoint p (s.point p).unbound)
  /-- a point is given a FOREIGN slot's identity and bound to it, with a calibration entry -/
  | relinks (s : State) (p : PointId) (n : SlotId) (x : Identity) : (s.slot n).state = .foreign →
      (s.slot n).identity = some x → (s.point p).identity = some x → (s.point p).boundSlot = none →
      s.Edit ((s.linked p n).setJoinList (s.service.joinList ++ [⟨n, .calibration⟩]))
  /-- an IDENT fails, and its slot is EMPTY again -/
  | identFails (s : State) (j : Job) : s.service.active = some j → j.kind = .ident → (s.slot j.slot).state = .joining →
      s.Edit ((s.setActive none).setSlot j.slot (s.slot j.slot).emptied)
  /-- an IDENT leaves its slot FOREIGN -/
  | identForeign (s : State) (j : Job) (x : Identity) : s.service.active = some j → j.kind = .ident →
      (s.slot j.slot).state = .joining →
      s.Edit ((s.setActive none).setSlot j.slot { s.slot j.slot with identity := some x }.madeForeign)
  /-- an IDENT binds the point patched with its identity, and goes on -/
  | identLinks (s : State) (j : Job) (x : Identity) (p : PointId) : s.service.active = some j → j.kind = .ident →
      (s.slot j.slot).state = .joining → (s.point p).identity = some x → (s.point p).boundSlot = none →
      s.Edit (((s.setSlot j.slot { s.slot j.slot with identity := some x }).linked p j.slot).setActive
        (some (newJob j.slot .calRead j.origin (some p) none)))

/-- CueSound for the engine alone. -/
structure Cue.Sound (c : Cue) : Prop where
  pointer : c.pointer ≤ c.list.length
  count : c.list.length ≤ 64
  owner : c.owner = none → c.state = .off
  fired : c.firedGroup ≠ none ↔ c.state = .running

theorem State.cueSound_iff (s : State) : s.CueSound ↔ s.cue.Sound :=
  ⟨fun h => ⟨h.pointer, h.count, h.owner, h.fired⟩, fun h => ⟨h.pointer, h.count, h.owner, h.fired⟩⟩

/-- A sequence of edits, the law of the Cue Engine aside: it is broken while a chain of cues is fired. -/
abbrev State.Path : State → State → Prop := Relation.ReflTransGen State.Edit

/-- A sequence of edits after which the Cue Engine is again within its law; the queue of commands stands. -/
structure State.Edits (s t : State) : Prop where
  path : s.Path t
  cue : s.cue.Sound → t.cue.Sound
  pending : t.pending = s.pending

@[refl] theorem State.Edits.rfl (s : State) : s.Edits s := ⟨.refl, id, Eq.refl _⟩

theorem State.Edits.trans {s t u : State} (h : s.Edits t) (h' : t.Edits u) : s.Edits u :=
  ⟨h.path.trans h'.path, fun hs => h'.cue (h.cue hs), h'.pending.trans h.pending⟩

theorem State.Edit.edits {s t : State} (h : s.Edit t) (hcue : t.cue = s.cue := by rfl)
    (hpending : t.pending = s.pending := by rfl) : s.Edits t :=
  ⟨.single h, fun hs => hcue ▸ hs, hpending⟩

/-- A law that every edit keeps is kept by a sequence of edits. -/
theorem State.Path.keeps {P : State → Prop} (hedit : ∀ s t : State, P s → s.Edit t → P t) {s t : State} (h : s.Path t)
    (hs : P s) : P t := by
  induction h with
  | refl => exact hs
  | tail _ hedit' ih => exact hedit _ _ ih hedit'

end Sys2Proof.Machine
end

section
/-!
Every edit keeps every law: one theorem for each law, by the edits that touch what it speaks of (O50 to O60 but O56).
-/
namespace Sys2Proof.Machine

/-! ## The state after a release -/

/-- The state that a release of RESETn leaves, before ESTOP is noted. -/
def State.released (pending : List Instr) (line : Level) (estop : Bool) : State :=
  { State.reset with pending := pending, cue := Cue.reset line, stopUnit := { State.reset.stopUnit with estop := estop } }

theorem State.reset_point (p : PointId) : State.reset.point p = PointRec.reset := by
  simp [State.reset, State.point]

theorem State.reset_slot (n : SlotId) : State.reset.slot n = SlotRec.reset := by
  simp [State.reset, State.slot]

theorem State.reset_group (g : GroupId) : State.reset.group g = GroupRec.reset := by
  simp [State.reset, State.group]

theorem State.reset_port (q : Port) : State.reset.port q = PortRec.reset := by cases q <;> rfl

theorem State.reset_notice (q : Port) : State.reset.notice q = NoticeSet.reset := by cases q <;> rfl

section
variable (pending : List Instr) (line : Level) (estop : Bool)

theorem State.released_point (p : PointId) : (State.released pending line estop).point p = PointRec.reset :=
  State.reset_point p

theorem State.released_slot (n : SlotId) : (State.released pending line estop).slot n = SlotRec.reset :=
  State.reset_slot n

theorem State.released_group (g : GroupId) : (State.released pending line estop).group g = GroupRec.reset :=
  State.reset_group g

theorem State.released_port (q : Port) : (State.released pending line estop).port q = PortRec.reset :=
  State.reset_port q

theorem State.released_notice (q : Port) : (State.released pending line estop).notice q = NoticeSet.reset :=
  State.reset_notice q

end

/-! ## Ports -/

theorem PortRec.Sound.reset : PortRec.reset.Sound := by
  constructor <;> simp [PortRec.reset]

theorem State.PortsSound.congr {s t : State} (h : s.PortsSound) (hports : t.ports = s.ports) : t.PortsSound := by
  rw [State.portsSound_iff] at h ⊢
  intro q
  rw [State.port, hports]
  exact h q

theorem State.PortsSound.released (pending : List Instr) (line : Level) (estop : Bool) :
    (State.released pending line estop).PortsSound :=
  (State.portsSound_iff _).mpr fun q => by
    rw [State.released_port]
    exact PortRec.Sound.reset

theorem State.PortsSound.edit {s t : State} (h : s.PortsSound) (hedit : s.Edit t) : t.PortsSound := by
  cases hedit with
  | release pending line estop => exact .released pending line estop
  | port q r hr =>
    rw [State.portsSound_iff] at h ⊢
    intro x
    rw [State.setPort_port]
    split_ifs
    · exact hr.sound (h q)
    · exact h x
  | _ => exact h.congr rfl

/-! ## Notices -/

theorem NoticeSet.Sound.reset : NoticeSet.reset.Sound := by
  constructor <;> simp [NoticeSet.reset, NoticeSet.suppresses]

theorem State.NoticesKept.released (pending : List Instr) (line : Level) (estop : Bool) :
    (State.released pending line estop).NoticesKept := fun q => by
  rw [State.released_notice]
  exact NoticeSet.Sound.reset

theorem State.NoticesKept.congr {s t : State} (h : s.NoticesKept) (hnotices : t.notices = s.notices) :
    t.NoticesKept := fun q => by
  rw [State.notice, hnotices]
  exact h q

theorem State.NoticesKept.edit {s t : State} (h : s.NoticesKept) (hedit : s.Edit t) : t.NoticesKept := by
  cases hedit with
  | release pending line estop => exact .released pending line estop
  | notice q n hn =>
    intro x
    rw [State.setNotice_notice]
    split_ifs
    · exact hn (h q)
    · exact h x
  | _ => exact h.congr rfl

/-! ## Ranges -/

theorem Bands.InRange.reset : GroupRec.reset.bands.InRange := by
  constructor <;> simp [GroupRec.reset]

theorem PointRec.InRange.reset : PointRec.reset.InRange := by
  constructor <;> simp [PointRec.reset]

theorem State.RangesSound.congr {s t : State} (h : s.RangesSound) (hgroups : t.groups = s.groups)
    (hpoints : t.points = s.points) : t.RangesSound := by
  rw [State.rangesSound_iff] at h ⊢
  simp only [State.group, State.point, hgroups, hpoints]
  exact h

theorem State.RangesSound.released (pending : List Instr) (line : Level) (estop : Bool) :
    (State.released pending line estop).RangesSound :=
  (State.rangesSound_iff _).mpr ⟨fun g => by
    rw [State.released_group]
    exact ⟨Bands.InRange.reset, by simp [GroupRec.reset]⟩, fun p => by
    rw [State.released_point]
    exact PointRec.InRange.reset⟩

/-- The ranges after the record of one point is replaced. -/
theorem State.RangesSound.setPoint {s : State} (h : s.RangesSound) {p : PointId} {r : PointRec}
    (hr : (s.point p).InRange → r.InRange) : (s.setPoint p r).RangesSound := by
  rw [State.rangesSound_iff] at h ⊢
  refine ⟨h.1, fun x => ?_⟩
  rw [State.setPoint_point]
  split_ifs
  · exact hr (h.2 p)
  · exact h.2 x

/-- The ranges after the record of one group is replaced. -/
theorem State.RangesSound.setGroup {s : State} (h : s.RangesSound) {g : GroupId} {r : GroupRec}
    (hbands : (s.group g).bands.InRange → r.bands.InRange)
    (hsettle : (∀ m ∈ (s.group g).members, m.settle ≤ 4) → ∀ m ∈ r.members, m.settle ≤ 4) :
    (s.setGroup g r).RangesSound := by
  rw [State.rangesSound_iff] at h ⊢
  refine ⟨fun x => ?_, h.2⟩
  rw [State.setGroup_group]
  split_ifs
  · exact ⟨hbands (h.1 g).1, hsettle (h.1 g).2⟩
  · exact h.1 x

theorem State.replaceMembers_point (s : State) (g : GroupId) (ps : List PointId) (p : PointId) :
    (s.replaceMembers g ps).point p = if ps.contains p then { s.point p with group := some g }
      else if (s.group g).has p then { s.point p with group := none } else s.point p := by
  simp only [State.replaceMembers, State.point, Fin.getElem_fin, Vector.getElem_ofFn]

theorem State.replaceMembers_group (s : State) (g : GroupId) (ps : List PointId) (x : GroupId) :
    (s.replaceMembers g ps).group x =
      if x = g then { s.group g with members := ps.map restMember } else s.group x := by
  rw [← State.setGroup_group]
  simp only [State.replaceMembers, State.group]

theorem State.RangesSound.edit {s t : State} (h : s.RangesSound) (hedit : s.Edit t) : t.RangesSound := by
  cases hedit with
  | release pending line estop => exact .released pending line estop
  | points v hv =>
    rw [State.rangesSound_iff] at h ⊢
    exact ⟨h.1, fun p => (hv p).ranges (h.2 p)⟩
  | group g r hr =>
    refine h.setGroup hr.bands fun hold m hm => ?_
    obtain ⟨m0, hm0, -, -, hsettle⟩ := hr.source m hm
    exact hsettle (hold m0 hm0)
  | begin g kind d o applied hmay =>
    refine h.setGroup id fun _ m hm => ?_
    obtain ⟨m0, -, rfl⟩ := List.mem_map.mp hm
    exact Nat.zero_le 4
  | members g ps hmay =>
    rw [State.rangesSound_iff] at h ⊢
    refine ⟨fun x => ?_, fun p => ?_⟩
    · change ((s.replaceMembers g ps).group x).bands.InRange ∧ ∀ m ∈ ((s.replaceMembers g ps).group x).members, _
      rw [State.replaceMembers_group]
      split_ifs
      · refine ⟨(h.1 g).1, fun m hm => ?_⟩
        obtain ⟨p, -, rfl⟩ := List.mem_map.mp hm
        exact Nat.zero_le 4
      · exact h.1 x
    · change ((s.replaceMembers g ps).point p).InRange
      rw [State.replaceMembers_point]
      split_ifs
      · exact ⟨(h.2 p).stopLead, (h.2 p).softLimits, (h.2 p).trim⟩
      · exact ⟨(h.2 p).stopLead, (h.2 p).softLimits, (h.2 p).trim⟩
      · exact h.2 p
  | installs j p c => exact h.setPoint fun hp => ⟨hp.stopLead, hp.softLimits, hp.trim⟩
  | position n p x => exact h.setPoint fun hp => ⟨hp.stopLead, hp.softLimits, hp.trim⟩
  | patch p i lo hi trim _ _ _ hranges => exact h.setPoint fun hp =>
      ⟨hp.stopLead, (hranges hp).softLimits, (hranges hp).trim⟩
  | unlinks p n r =>
    exact State.RangesSound.setPoint (s := (s.setSlot n r).dropJoin n) (h.congr rfl rfl)
      fun hp => ⟨hp.stopLead, hp.softLimits, hp.trim⟩
  | relinks p n x =>
    refine State.RangesSound.congr (s := s.linked p n) ?_ rfl rfl
    exact State.RangesSound.setPoint (s := s.setSlot n _) (h.congr rfl rfl)
      fun hp => ⟨hp.stopLead, hp.softLimits, hp.trim⟩
  | identLinks j x p =>
    refine State.RangesSound.congr (s := (s.setSlot j.slot _).linked p j.slot) ?_ rfl rfl
    exact State.RangesSound.setPoint (s := (s.setSlot j.slot _).setSlot j.slot _) (h.congr rfl rfl)
      fun hp => ⟨hp.stopLead, hp.softLimits, hp.trim⟩
  | _ => exact h.congr rfl rfl

/-! ## Loads -/

theorem LoadPart.Sound.reset : LoadPart.reset.Sound := by
  constructor <;> simp [LoadPart.reset]

theorem LoadPart.Sound.restart {l : LoadPart} (h : l.Sound) : l.restart.Sound :=
  { h with window := Nat.zero_le 8, value := fun hne => absurd rfl hne }

theorem Cal.inRange_iff (c : Cal) : c.inRange = true ↔
    c.zero ≤ 4095 ∧ 100 ≤ c.span ∧ c.span ≤ 20000 ∧ 50 ≤ c.wll ∧ c.wll ≤ 20000 := by
  simp only [Cal.inRange, Bool.and_eq_true, decide_eq_true_iff, and_assoc]

/-- R47: the limits stay in their ranges when they are brought into line with a working load limit in its range. -/
theorem LoadPart.Sound.align {l : LoadPart} (h : l.Sound) {wll : Nat} (hwll : 50 ≤ wll ∧ wll ≤ 20000) :
    (l.align wll).Sound :=
  have hhigh := h.high
  have hlow := h.low
  { h with
    high := by
      simp only [LoadPart.align]
      split_ifs <;> omega
    low := by
      simp only [LoadPart.align]
      omega }

theorem LoadPart.Sound.install {l : LoadPart} (h : l.Sound) {c : Cal} (hc : c.inRange = true) : (l.install c).Sound :=
  have hwll := ((Cal.inRange_iff c).mp hc).2.2.2
  { (h.align hwll).restart with
    cal := fun c' hc' => by
      cases hc'
      exact hc
    value := fun hne => absurd rfl hne }

theorem LoadPart.Sound.dropCal {l : LoadPart} (h : l.Sound) : l.dropCal.Sound :=
  { h.restart with
    cal := fun c hc => by cases hc
    value := fun hne => absurd rfl hne }

theorem LoadPart.Sound.installRead {l : LoadPart} (h : l.Sound) (c : Cal) : (l.installRead c).Sound := by
  rw [LoadPart.installRead]
  split_ifs with hc
  · exact h.install hc
  · exact { h.restart with
      cal := fun c hc => by cases hc
      value := fun hne => absurd rfl hne }

/-- The calibrations that wait to be written, in the queue or in the active job, lie in their ranges. -/
def Service.WritesInRange (e : Service) : Prop :=
  (∀ x ∈ e.portQueue, ∀ c, x.write = some c → c.inRange = true) ∧
    ∀ j, e.active = some j → ∀ c, j.write = some c → c.inRange = true

theorem State.loadsSound_iff (s : State) :
    s.LoadsSound ↔ (∀ p, (s.point p).load.Sound) ∧ s.service.WritesInRange :=
  ⟨fun h => ⟨h.points, h.queued, h.active⟩, fun ⟨hpoints, hqueued, hactive⟩ => ⟨hpoints, hqueued, hactive⟩⟩

/-- The loads after some points are replaced: each new load part is sound. -/
theorem State.LoadsSound.of_points {s t : State} (h : s.LoadsSound) (hservice : t.service.WritesInRange)
    (hpoints : ∀ p, (s.point p).load.Sound → (t.point p).load.Sound) : t.LoadsSound :=
  (State.loadsSound_iff t).mpr ⟨fun p => hpoints p (h.points p), hservice⟩

theorem State.LoadsSound.writes {s : State} (h : s.LoadsSound) : s.service.WritesInRange :=
  ((State.loadsSound_iff s).mp h).2

/-- The loads after one point is replaced. -/
theorem State.LoadsSound.setPoint {s : State} (h : s.LoadsSound) {p : PointId} {r : PointRec}
    (hr : (s.point p).load.Sound → r.load.Sound) : (s.setPoint p r).LoadsSound :=
  h.of_points h.writes fun x hx => by
    rw [State.setPoint_point]
    split_ifs
    · exact hr (h.points p)
    · exact hx

/-- The loads after the Service Engine is replaced. -/
theorem State.LoadsSound.of_service {s t : State} (h : s.LoadsSound) (hpoints : t.points = s.points)
    (hservice : s.service.WritesInRange → t.service.WritesInRange) : t.LoadsSound :=
  h.of_points (hservice h.writes) fun p hp => by
    rw [State.point, hpoints]
    exact hp

theorem Service.WritesInRange.idle {e : Service} (h : e.WritesInRange) (l : List JoinEntry) :
    Service.WritesInRange { e with active := none, joinList := l } :=
  ⟨h.1, fun j hj => by cases hj⟩

theorem State.joinJob_write (s : State) (e : JoinEntry) : (s.joinJob e).write = none := by
  unfold State.joinJob
  split <;> rfl

theorem State.LoadsSound.released (pending : List Instr) (line : Level) (estop : Bool) :
    (State.released pending line estop).LoadsSound :=
  (State.loadsSound_iff _).mpr ⟨fun p => by
    rw [State.released_point]
    exact LoadPart.Sound.reset, by simp [Service.WritesInRange, State.released, State.reset]⟩

theorem State.LoadsSound.edit {s t : State} (h : s.LoadsSound) (hedit : s.Edit t) : t.LoadsSound := by
  cases hedit with
  | release pending line estop => exact .released pending line estop
  | points v hv => exact h.of_points h.writes fun p hp => (hv p).load hp
  | members g ps hmay =>
    refine h.of_points h.writes fun p hp => ?_
    change ((s.replaceMembers g ps).point p).load.Sound
    rw [State.replaceMembers_point]
    split_ifs <;> exact hp
  | installs j p c hactive hwrite => exact h.setPoint fun hp => hp.install (h.active j hactive c hwrite)
  | position n p x => exact h.setPoint id
  | patch p i lo hi trim => exact h.setPoint id
  | unlinks p n r =>
    exact State.LoadsSound.setPoint (s := (s.setSlot n r).dropJoin n) (h.of_service rfl id) fun hp => hp.restart
  | relinks p n x =>
    refine State.LoadsSound.of_service (s := s.linked p n) ?_ rfl id
    exact State.LoadsSound.setPoint (s := s.setSlot n _) (h.of_service rfl id) fun hp => hp.restart
  | identLinks j x p =>
    refine State.LoadsSound.of_service (s := (s.setSlot j.slot _).linked p j.slot) ?_ rfl fun hw =>
      ⟨hw.1, fun j' hj' c hc => ?_⟩
    · exact State.LoadsSound.setPoint (s := (s.setSlot j.slot _).setSlot j.slot _) (h.of_service rfl id)
        fun hp => hp.restart
    · cases hj'
      cases hc
  | joinStarts e rest =>
    refine h.of_service rfl fun hw => ⟨hw.1, fun j hj c hc => ?_⟩
    cases hj
    rw [State.joinJob_write] at hc
    cases hc
  | queue l hl => exact h.of_service rfl fun hw => ⟨fun x hx => hw.1 x (hl.subset hx), hw.2⟩
  | portStarts e l he hl =>
    refine h.of_service rfl fun hw => ⟨fun x hx => hw.1 x (hl.subset hx), fun j hj => ?_⟩
    cases hj
    exact hw.1 e he
  | enqueue e _ hwrite =>
    refine h.of_service rfl fun hw => ⟨fun x hx => ?_, hw.2⟩
    rcases List.mem_append.mp hx with hold | hnew
    · exact hw.1 x hold
    · cases List.mem_singleton.mp hnew
      exact hwrite (h.points e.point)
  | job j j' hj _ _ hwrite =>
    refine h.of_service rfl fun hw => ⟨hw.1, fun k hk => ?_⟩
    cases hk
    rw [hwrite]
    exact hw.2 j hj
  | jobEnds => exact h.of_service rfl fun hw => hw.idle _
  | vanishes n a _ _ ha =>
    refine h.of_service rfl fun hw => ⟨hw.1, fun j hj => ?_⟩
    rcases ha with rfl | ⟨rfl, -⟩
    · cases hj
    · exact hw.2 j hj
  | identFails j => exact h.of_service rfl fun hw => hw.idle _
  | identForeign j => exact h.of_service rfl fun hw => hw.idle _
  | _ => exact h.of_service rfl id

end Sys2Proof.Machine
end

section
/-!
Every edit keeps the laws of the groups: membership, power, drive and targets (O53, O54, O55, O57).
-/
namespace Sys2Proof.Machine

theorem GroupState.active_eq_false_iff (r : GroupState) : r.active = false ↔ r ≠ .moving ∧ r ≠ .stopping := by
  cases r <;> simp [GroupState.active]

theorem State.linked_point (s : State) (p : PointId) (n : SlotId) (x : PointId) :
    (s.linked p n).point x = if x = p then (s.point p).boundTo n else s.point x := State.setPoint_point ..

theorem State.linked_slot (s : State) (p : PointId) (n x : SlotId) :
    (s.linked p n).slot x = if x = n then (s.slot n).boundTo p else s.slot x := State.setSlot_slot ..

theorem State.begin_group (s : State) (g : GroupId) (kind : MoveKind) (d : Dir) (o : MoveOrigin) (applied : Option Int)
    (x : GroupId) : (s.begin g kind d o applied).group x = if x = g then
      { (s.group g).updAll (s.startMember applied) with
        state := .moving, kind := kind, dir := d, origin := o, applied := applied.getD 0, stopCause := none }
      else s.group x := State.setGroup_group ..

theorem State.begin_points (s : State) (g : GroupId) (applied : Option Int) :
    ((s.group g).updAll (s.startMember applied)).members.map Member.point = (s.group g).members.map Member.point := by
  simp only [GroupRec.updAll, List.map_map]
  rfl

theorem mem_iff_of_map_point_eq {l l' : List Member} (h : l.map Member.point = l'.map Member.point) (p : PointId) :
    (∃ m ∈ l, m.point = p) ↔ ∃ m ∈ l', m.point = p := by
  rw [← List.mem_map, ← List.mem_map, h]

theorem map_restMember_point (ps : List PointId) : (ps.map restMember).map Member.point = ps := by
  rw [List.map_map]
  exact List.map_id ps

/-! ## Membership -/

/-- The group fields of the points are left as they are, by every edit but a new list. -/
def State.SameGroups (s t : State) : Prop := ∀ p, (t.point p).group = (s.point p).group

theorem State.SameGroups.setPoint {s : State} {p : PointId} {r : PointRec} (hr : r.group = (s.point p).group) :
    s.SameGroups (s.setPoint p r) := fun x => by
  rw [State.setPoint_point]
  split_ifs with hx
  · rw [hx, hr]
  · rfl

/-- Membership depends on the members' points and the points' group fields alone. -/
theorem State.MembershipSound.congr {s t : State} (h : s.MembershipSound)
    (hgroups : ∀ g, (t.group g).members.map Member.point = (s.group g).members.map Member.point)
    (hpoints : s.SameGroups t) : t.MembershipSound where
  size g := by rw [← List.length_map (f := Member.point), hgroups, List.length_map]; exact h.size g
  distinct g := by rw [hgroups]; exact h.distinct g
  inStep p g := by rw [hpoints, h.inStep, mem_iff_of_map_point_eq (hgroups g)]

theorem State.MembershipSound.released (pending : List Instr) (line : Level) (estop : Bool) :
    (State.released pending line estop).MembershipSound where
  size g := by rw [State.released_group]; exact Nat.zero_le 24
  distinct g := by rw [State.released_group]; exact List.nodup_nil
  inStep p g := by rw [State.released_group, State.released_point]; simp [PointRec.reset, GroupRec.reset]

theorem GroupRec.has_iff (r : GroupRec) (p : PointId) : r.has p = true ↔ ∃ m ∈ r.members, m.point = p := by
  simp only [GroupRec.has, List.any_eq_true, beq_iff_eq]

/-- R72 keeps the lists and the group fields in step: a point of the new list had no group or this one. -/
theorem State.MembershipSound.replaceMembers {s : State} (h : s.MembershipSound) {g : GroupId} {ps : List PointId}
    (hmay : s.MayReplace g ps) : (s.replaceMembers g ps).MembershipSound where
  size x := by
    rw [State.replaceMembers_group]
    split_ifs
    · exact (List.length_map (as := ps) restMember).trans_le hmay.size
    · exact h.size x
  distinct x := by
    rw [State.replaceMembers_group]
    split_ifs
    · exact (map_restMember_point ps).symm ▸ hmay.distinct
    · exact h.distinct x
  inStep p x := by
    have hlist : (∃ m ∈ ps.map restMember, m.point = p) ↔ p ∈ ps := by
      rw [← List.mem_map, map_restMember_point]
    have hold := h.inStep p x
    rw [State.replaceMembers_group, State.replaceMembers_point]
    by_cases hx : x = g
    · subst hx
      rw [if_pos rfl]
      change _ ↔ ∃ m ∈ ps.map restMember, m.point = p
      rw [hlist]
      by_cases hp : p ∈ ps
      · simp [hp]
      · by_cases hhas : (s.group x).has p = true
        · simp [hp, hhas]
        · rw [GroupRec.has_iff] at hhas
          simp [hp, GroupRec.has_iff, hhas, hold]
    · rw [if_neg hx]
      by_cases hp : p ∈ ps
      · have hfree := hmay.free p hp
        rw [if_pos (List.contains_iff_mem.mpr hp), ← hold]
        exact ⟨fun heq => absurd (Option.some.inj heq).symm hx, fun heq => absurd (hfree x heq) hx⟩
      · rw [if_neg (by simpa using hp)]
        split_ifs with hhas
        · have hmine := (h.inStep p g).mpr ((GroupRec.has_iff _ _).mp hhas)
          rw [← hold, hmine]
          exact ⟨fun heq => (nomatch heq), fun heq => absurd (Option.some.inj heq).symm hx⟩
        · exact hold

theorem State.MembershipSound.edit {s t : State} (h : s.MembershipSound) (hedit : s.Edit t) : t.MembershipSound := by
  cases hedit with
  | release pending line estop => exact .released pending line estop
  | points v hv => exact h.congr (fun _ => rfl) fun p => (hv p).group
  | group g r hr =>
    refine h.congr (fun x => ?_) fun _ => rfl
    rw [State.setGroup_group]
    split_ifs with hx
    · rw [hx, hr.points]
    · rfl
  | begin g kind d o applied =>
    refine h.congr (fun x => ?_) fun _ => rfl
    rw [State.begin_group]
    split_ifs with hx
    · rw [hx]
      exact s.begin_points g applied
    · rfl
  | members g ps hmay => exact (h.replaceMembers hmay).congr (fun _ => rfl) fun _ => rfl
  | installs => exact h.congr (fun _ => rfl) (.setPoint rfl)
  | position => exact h.congr (fun _ => rfl) (.setPoint rfl)
  | patch => exact h.congr (fun _ => rfl) (.setPoint rfl)
  | unlinks p n r => exact h.congr (fun _ => rfl) (State.SameGroups.setPoint (s := (s.setSlot n r).dropJoin n) rfl)
  | relinks p n x => exact h.congr (fun _ => rfl) (State.SameGroups.setPoint (s := s.setSlot n _) rfl)
  | identLinks j x p =>
    exact h.congr (fun _ => rfl) (State.SameGroups.setPoint (s := (s.setSlot j.slot _).setSlot j.slot _) rfl)
  | _ => exact h.congr (fun _ => rfl) fun _ => rfl

/-! ## Power -/

/-- The laws of ESTOP, the mains and the holds for a Stop Unit and the states of the groups. -/
def PowerLaw (u : StopUnit) (state : GroupId → GroupState) : Prop :=
  (u.mains = .tripped → ∀ g, (state g).active = false) ∧ (u.estop = true → u.mains = .tripped) ∧
    (u.hold ≠ ⟨false, false, false⟩ → ∀ g, state g ≠ .moving)

theorem State.powerSound_iff (s : State) : s.PowerSound ↔ PowerLaw s.stopUnit fun g => (s.group g).state := by
  simp only [PowerLaw, GroupState.active_eq_false_iff]
  exact ⟨fun h => ⟨h.mains, h.estop, h.hold⟩, fun ⟨hmains, hestop, hhold⟩ => ⟨hmains, hestop, hhold⟩⟩

/-- The law stands where no group is newly in motion. -/
theorem State.PowerSound.of_groups {s t : State} (h : s.PowerSound) (hunit : t.stopUnit = s.stopUnit)
    (hactive : ∀ g, (t.group g).state.active = true → (s.group g).state.active = true)
    (hmoving : ∀ g, (t.group g).state = .moving → (s.group g).state = .moving) : t.PowerSound := by
  rw [State.powerSound_iff] at h ⊢
  obtain ⟨hmains, hestop, hhold⟩ := h
  rw [hunit]
  exact ⟨fun hm g => eq_false_of_ne_true fun ha => ne_true_of_eq_false (hmains hm g) (hactive g ha), hestop,
    fun hh g ha => hhold hh g (hmoving g ha)⟩

theorem State.PowerSound.congr {s t : State} (h : s.PowerSound) (hunit : t.stopUnit = s.stopUnit)
    (hgroups : t.groups = s.groups) : t.PowerSound :=
  h.of_groups hunit (fun g => by rw [State.group, hgroups]; exact id) fun g => by rw [State.group, hgroups]; exact id

theorem State.PowerSound.released (pending : List Instr) (line : Level) (estop : Bool) :
    (State.released pending line estop).PowerSound where
  mains _ g := by rw [State.released_group]; exact ⟨nofun, nofun⟩
  estop _ := rfl
  hold _ g := by rw [State.released_group]; exact nofun

theorem State.PowerSound.edit {s t : State} (h : s.PowerSound) (hedit : s.Edit t) : t.PowerSound := by
  cases hedit with
  | release pending line estop => exact .released pending line estop
  | group g r hr =>
    refine h.of_groups rfl (fun x => ?_) fun x => ?_
    all_goals
      rw [State.setGroup_group]
      split_ifs with hx
    · exact hx ▸ hr.active
    · exact id
    · exact hx ▸ hr.moving
    · exact id
  | begin g kind d o applied hmay =>
    rw [State.powerSound_iff]
    refine ⟨fun hm => ?_, fun he => ?_, fun hh => absurd hmay.hold hh⟩
    · exact nomatch hmay.mains.symm.trans hm
    · exact nomatch hmay.estop.symm.trans he
  | members g ps =>
    have hstate : ∀ x, ((s.replaceMembers g ps).group x).state = (s.group x).state := fun x => by
      rw [State.replaceMembers_group]
      split_ifs with hx
      · rw [hx]
      · rfl
    exact h.of_groups rfl (fun x => (congrArg (·.active = true) (hstate x)).mp)
      fun x => (congrArg (· = GroupState.moving) (hstate x)).mp
  | stopUnit u hu =>
    rw [State.powerSound_iff] at h ⊢
    obtain ⟨hmains, hestop, hhold⟩ := h
    exact ⟨fun hm => (hu.mains hm).elim hmains id, hu.estop hestop, fun hh => (hu.hold hh).elim hhold id⟩
  | _ => exact h.congr rfl rfl

/-! ## Drive -/

/-- The law of a group's claim, by the ports. -/
structure GroupRec.Driven (port : Port → PortRec) (r : GroupRec) : Prop where
  moving : r.state = .moving → ∃ q, r.holder = some q ∧ (port q).link = .up ∧ (port q).enable = true
  stopping : r.state = .stopping → r.holder ≠ none
  orphaned : r.orphaned = true → r.holder ≠ none

theorem State.driveSound_iff (s : State) : s.DriveSound ↔
    (∀ g, (s.group g).Driven s.port) ∧ ∀ q, (s.port q).enable = true → (s.port q).link = .up :=
  ⟨fun h => ⟨fun g => ⟨h.moving g, h.stopping g, h.orphaned g⟩, h.enableUp⟩,
    fun ⟨h, hup⟩ => ⟨fun g => (h g).moving, fun g => (h g).stopping, fun g => (h g).orphaned, hup⟩⟩

theorem State.DriveSound.congr {s t : State} (h : s.DriveSound) (hgroups : t.groups = s.groups)
    (hports : t.ports = s.ports) : t.DriveSound := by
  rw [State.driveSound_iff] at h ⊢
  have hport : t.port = s.port := funext fun q => by rw [State.port, State.port, hports]
  simp only [State.group, hgroups, hport]
  exact h

theorem State.DriveSound.released (pending : List Instr) (line : Level) (estop : Bool) :
    (State.released pending line estop).DriveSound :=
  (State.driveSound_iff _).mpr ⟨fun g => by
    rw [State.released_group]
    exact ⟨nofun, nofun, nofun⟩, fun q => by
    rw [State.released_port]
    exact nofun⟩

/-- A group that was MOVING or STOPPING had a holder, so an edit has left it that holder. -/
theorem GroupRec.EditTo.driven {port : Port → PortRec} {r r' : GroupRec} (h : r.EditTo r') (hr : r.Driven port) :
    r'.Driven port where
  moving hm := by
    obtain ⟨q, hq, hdrive⟩ := hr.moving (h.moving hm)
    rcases h.holder (by rw [hm]; rfl) with hsame | hnone
    · exact ⟨q, hsame.trans hq, hdrive⟩
    · exact nomatch hq.symm.trans hnone
  stopping hst := by
    have hactive := h.active (by rw [hst]; rfl)
    have hheld : r.holder ≠ none := by
      rcases (GroupState.active_iff _).mp hactive with hm | hs
      · obtain ⟨q, hq, -⟩ := hr.moving hm
        exact hq ▸ nofun
      · exact hr.stopping hs
    rcases h.holder (by rw [hst]; rfl) with hsame | hnone
    · exact hsame ▸ hheld
    · exact absurd hnone hheld
  orphaned := h.orphaned hr.orphaned

theorem State.replaceMembers_ports (s : State) (g : GroupId) (ps : List PointId) :
    (s.replaceMembers g ps).ports = s.ports := by
  simp only [State.replaceMembers, State.setGroup]

theorem State.DriveSound.replaceMembers {s : State} (h : s.DriveSound) (g : GroupId) (ps : List PointId) :
    (s.replaceMembers g ps).DriveSound := by
  have hport : (s.replaceMembers g ps).port = s.port := funext fun q => by
    rw [State.port, State.port, State.replaceMembers_ports]
  rw [State.driveSound_iff, hport] at *
  refine ⟨fun x => ?_, h.2⟩
  rw [State.replaceMembers_group]
  split_ifs
  · exact ⟨(h.1 g).moving, (h.1 g).stopping, (h.1 g).orphaned⟩
  · exact h.1 x

theorem State.DriveSound.edit {s t : State} (h : s.DriveSound) (hedit : s.Edit t) : t.DriveSound := by
  cases hedit with
  | release pending line estop => exact .released pending line estop
  | port q r hr =>
    rw [State.driveSound_iff] at h ⊢
    obtain ⟨hgroups, hup⟩ := h
    refine ⟨fun g => ⟨fun hm => ?_, (hgroups g).stopping, (hgroups g).orphaned⟩, fun x => ?_⟩
    · obtain ⟨x, hx, hlink, henable⟩ := (hgroups g).moving hm
      refine ⟨x, hx, ?_⟩
      rw [State.setPort_port]
      split_ifs with hq
      · subst hq
        rcases hr.drive with hkeeps | hidle
        · exact hkeeps hlink henable
        · exact absurd hm (hidle g hx)
      · exact ⟨hlink, henable⟩
    · rw [State.setPort_port]
      split_ifs
      · exact hr.enableUp (hup q)
      · exact hup x
  | group g r hr =>
    rw [State.driveSound_iff] at h ⊢
    refine ⟨fun x => ?_, h.2⟩
    rw [State.setGroup_group]
    split_ifs
    · exact hr.driven (h.1 g)
    · exact h.1 x
  | begin g kind d o applied hmay =>
    rw [State.driveSound_iff] at h ⊢
    refine ⟨fun x => ?_, h.2⟩
    obtain ⟨q, hq, henable⟩ := hmay.held
    rw [State.begin_group]
    split_ifs
    · exact ⟨fun _ => ⟨q, hq, h.2 q henable, henable⟩, nofun, (h.1 g).orphaned⟩
    · exact h.1 x
  | members g ps =>
    exact (h.replaceMembers g ps).congr rfl (s.replaceMembers_ports g ps).symm
  | _ => exact h.congr rfl rfl

/-! ## Targets -/

/-- Targets depend on the groups and on the points' soft limits. -/
theorem State.TargetsSound.of_limits {s t : State} (h : s.TargetsSound) (hgroups : t.groups = s.groups)
    (hlimits : ∀ g, (s.group g).state = .moving → ∀ m ∈ (s.group g).members,
      (t.point m.point).softMin = (s.point m.point).softMin ∧ (t.point m.point).softMax = (s.point m.point).softMax) :
    t.TargetsSound := by
  intro g
  rw [State.group, hgroups]
  intro hm hk m hmem
  obtain ⟨hmin, hmax⟩ := hlimits g hm m hmem
  rw [hmin, hmax]
  exact h g hm hk m hmem

theorem State.TargetsSound.congr {s t : State} (h : s.TargetsSound) (hgroups : t.groups = s.groups)
    (hpoints : ∀ p, (t.point p).softMin = (s.point p).softMin ∧ (t.point p).softMax = (s.point p).softMax) :
    t.TargetsSound := h.of_limits hgroups fun _ _ m _ => hpoints m.point

theorem State.setPoint_limits {s : State} {p : PointId} {r : PointRec}
    (hr : r.softMin = (s.point p).softMin ∧ r.softMax = (s.point p).softMax) (x : PointId) :
    ((s.setPoint p r).point x).softMin = (s.point x).softMin ∧
      ((s.setPoint p r).point x).softMax = (s.point x).softMax := by
  rw [State.setPoint_point]
  split_ifs with hx
  · rw [hx]
    exact hr
  · exact ⟨rfl, rfl⟩

theorem State.TargetsSound.released (pending : List Instr) (line : Level) (estop : Bool) :
    (State.released pending line estop).TargetsSound := fun g => by
  rw [State.released_group]
  exact nofun

/-- A member of a MOVING group is a point at work. -/
theorem State.MembershipSound.pointActive {s : State} (h : s.MembershipSound) {g : GroupId}
    (hg : (s.group g).state = .moving) {m : Member} (hm : m ∈ (s.group g).members) : s.pointActive m.point = true :=
  (State.pointActive_iff s m.point).mpr ⟨g, (h.inStep m.point g).mpr ⟨m, hm, rfl⟩, .inl hg⟩

theorem State.TargetsSound.edit {s t : State} (hmembers : s.MembershipSound) (h : s.TargetsSound) (hedit : s.Edit t) :
    t.TargetsSound := by
  cases hedit with
  | release pending line estop => exact .released pending line estop
  | points v hv => exact h.of_limits rfl fun g hg m hm => (hv m.point).limits (hmembers.pointActive hg hm)
  | group g r hr =>
    intro x
    rw [State.setGroup_group]
    split_ifs
    · intro hm hk m' hm'
      obtain ⟨m, hmem, hpoint, htarget, -⟩ := hr.source m' hm'
      rw [← hpoint, ← htarget]
      exact h g (hr.moving hm) (hr.kind.symm.trans hk) m hmem
    · exact h x
  | begin g kind d o applied hmay =>
    intro x
    rw [State.begin_group]
    split_ifs
    · intro _ hk m' hm'
      obtain ⟨m, hmem, rfl⟩ := List.mem_map.mp hm'
      obtain ⟨e, rfl, hfit⟩ := hmay.targets hk
      obtain ⟨y, hpos, hlo, hhi⟩ := hfit m hmem
      refine ⟨y + e, ?_, hlo, hhi⟩
      simp only [State.startMember, hpos, Option.map_some]
    · exact h x
  | members g ps hmay =>
    intro x
    change ((s.replaceMembers g ps).group x).state = _ → ((s.replaceMembers g ps).group x).kind = _ →
      ∀ m ∈ ((s.replaceMembers g ps).group x).members, ∃ y, m.target = some y ∧
        ((s.replaceMembers g ps).point m.point).softMin ≤ y ∧ y ≤ ((s.replaceMembers g ps).point m.point).softMax
    rw [State.replaceMembers_group]
    split_ifs
    · exact fun hm => nomatch hmay.idle.symm.trans hm
    · intro hm hk m hmem
      rw [State.replaceMembers_point]
      split_ifs <;> exact h x hm hk m hmem
  | installs => exact h.congr rfl (State.setPoint_limits ⟨rfl, rfl⟩)
  | position => exact h.congr rfl (State.setPoint_limits ⟨rfl, rfl⟩)
  | patch p i lo hi trim _ hidle =>
    refine h.of_limits rfl fun g hg m hm => ?_
    have hne : m.point ≠ p := fun heq => by
      have := hmembers.pointActive hg hm
      rw [heq, hidle] at this
      cases this
    rw [State.setPoint_point, if_neg hne]
    exact ⟨rfl, rfl⟩
  | unlinks p n r => exact h.congr rfl (State.setPoint_limits (s := (s.setSlot n r).dropJoin n) ⟨rfl, rfl⟩)
  | relinks p n x => exact h.congr rfl (State.setPoint_limits (s := s.setSlot n _) ⟨rfl, rfl⟩)
  | identLinks j x p =>
    exact h.congr rfl (State.setPoint_limits (s := (s.setSlot j.slot _).setSlot j.slot _) ⟨rfl, rfl⟩)
  | _ => exact h.congr rfl fun _ => ⟨rfl, rfl⟩

end Sys2Proof.Machine
end

section
/-!
Every edit keeps the laws of binding and of the slot counters (O52).
-/
namespace Sys2Proof.Machine

/-! ## Binding -/

/-- Binding depends on what the points and slots hold of each other, and on indications outside BOUND slots. -/
theorem State.BindingSound.congr {s t : State} (h : s.BindingSound)
    (hpoints : ∀ p, (t.point p).identity = (s.point p).identity ∧ (t.point p).boundSlot = (s.point p).boundSlot ∧
      (t.point p).raw = (s.point p).raw)
    (hslots : ∀ n, (s.slot n).EditTo (t.slot n)) : t.BindingSound where
  slotPoint n := by rw [(hslots n).state, (hslots n).point]; exact h.slotPoint n
  oneToOne n p := by rw [(hslots n).point, (hpoints p).2.1]; exact h.oneToOne n p
  sameIdentity n p := by rw [(hslots n).point, (hslots n).identity, (hpoints p).1]; exact h.sameIdentity n p
  slotIdentity n := by rw [(hslots n).identity, (hslots n).state]; exact h.slotIdentity n
  distinct p p' := by rw [(hpoints p).1, (hpoints p').1]; exact h.distinct p p'
  valid p := by rw [(hpoints p).1]; exact h.valid p
  raw p := by rw [(hpoints p).2.1, (hpoints p).2.2]; exact h.raw p
  indications n hn := by rw [(hslots n).state] at hn; exact (hslots n).indications hn (h.indications n hn)

theorem State.BindingSound.of_tables {s t : State} (h : s.BindingSound) (hpoints : t.points = s.points)
    (hslots : t.slots = s.slots) : t.BindingSound :=
  h.congr (fun p => by rw [State.point, State.point, hpoints]; exact ⟨rfl, rfl, rfl⟩)
    fun n => by rw [State.slot, State.slot, hslots]; exact .refl _

/-- What binding needs of the record of a point that is replaced, its slot being kept. -/
theorem State.BindingSound.setPoint {s : State} (h : s.BindingSound) {p : PointId} {r : PointRec}
    (hidentity : r.identity = (s.point p).identity) (hbound : r.boundSlot = (s.point p).boundSlot)
    (hraw : r.raw ≠ none → r.boundSlot ≠ none) : (s.setPoint p r).BindingSound where
  slotPoint := h.slotPoint
  oneToOne n x := by
    have := h.oneToOne n x
    grind [State.setPoint_point, State.setPoint_slot]
  sameIdentity n x := by
    have := h.sameIdentity n x
    grind [State.setPoint_point, State.setPoint_slot]
  slotIdentity := h.slotIdentity
  distinct x y := by
    have := h.distinct x y
    grind [State.setPoint_point]
  valid x := by
    have := h.valid x
    grind [State.setPoint_point]
  raw x := by
    have := h.raw x
    grind [State.setPoint_point]
  indications := h.indications

/-- What binding needs of a slot that is replaced and has no point before or after. -/
theorem State.BindingSound.setSlot {s : State} (h : s.BindingSound) {n : SlotId} {r : SlotRec}
    (hnone : (s.slot n).point = none) (hstate : r.state ≠ .bound) (hpoint : r.point = none)
    (hidentity : r.identity ≠ none ↔ r.state = .foreign) (hcandidate : r.candidate = none) (haccepted : r.accepted = none) :
    (s.setSlot n r).BindingSound where
  slotPoint x := by
    have := h.slotPoint x
    grind [State.setSlot_slot]
  oneToOne x p := by
    have := h.oneToOne x p
    grind [State.setSlot_slot, State.setSlot_point]
  sameIdentity x p := by
    have := h.sameIdentity x p
    grind [State.setSlot_slot, State.setSlot_point]
  slotIdentity x := by
    have := h.slotIdentity x
    grind [State.setSlot_slot]
  distinct := h.distinct
  valid := h.valid
  raw := h.raw
  indications x := by
    have := h.indications x
    grind [State.setSlot_slot]

/-- A slot in EMPTY or JOINING holds nothing. -/
theorem State.BindingSound.slot_bare {s : State} (h : s.BindingSound) {n : SlotId} (hstate : (s.slot n).state ≠ .bound)
    (hforeign : (s.slot n).state ≠ .foreign) : (s.slot n).point = none ∧ (s.slot n).identity = none ∧
      (s.slot n).candidate = none ∧ (s.slot n).accepted = none := by
  have hpoint := mt (h.slotPoint n).mpr hstate
  have hidentity := mt (h.slotIdentity n).mp (not_or.mpr ⟨hstate, hforeign⟩)
  exact ⟨not_not.mp hpoint, not_not.mp hidentity, h.indications n hstate⟩

theorem State.BindingSound.point_none {s : State} (h : s.BindingSound) {n : SlotId} (hstate : (s.slot n).state ≠ .bound) :
    (s.slot n).point = none := not_not.mp (mt (h.slotPoint n).mpr hstate)

/-- A point that leaves its slot, which keeps no point. -/
theorem State.BindingSound.unlink {s : State} (h : s.BindingSound) {p : PointId} {n : SlotId} {r : SlotRec}
    (hlinked : (s.slot n).point = some p) (hstate : r.state ≠ .bound) (hpoint : r.point = none)
    (hidentity : r.identity ≠ none ↔ r.state = .foreign) (hcandidate : r.candidate = none) (haccepted : r.accepted = none) :
    ((s.setSlot n r).setPoint p (s.point p).unbound).BindingSound := by
  have hslot := (h.oneToOne n p).mp hlinked
  constructor
  case slotPoint =>
    intro x
    have := h.slotPoint x
    grind [State.setSlot_slot, State.setPoint_slot]
  case oneToOne =>
    intro x y
    have := h.oneToOne x y
    have := h.oneToOne n y
    grind [State.setSlot_slot, State.setPoint_slot, State.setPoint_point, State.setSlot_point, PointRec.unbound]
  case sameIdentity =>
    intro x y
    have := h.sameIdentity x y
    grind [State.setSlot_slot, State.setPoint_slot, State.setPoint_point, State.setSlot_point, PointRec.unbound]
  case slotIdentity =>
    intro x
    have := h.slotIdentity x
    grind [State.setSlot_slot, State.setPoint_slot]
  case distinct =>
    intro x y
    have := h.distinct x y
    grind [State.setPoint_point, State.setSlot_point, PointRec.unbound]
  case valid =>
    intro x
    have := h.valid x
    grind [State.setPoint_point, State.setSlot_point, PointRec.unbound]
  case raw =>
    intro x
    have := h.raw x
    grind [State.setPoint_point, State.setSlot_point, PointRec.unbound]
  case indications =>
    intro x
    have := h.indications x
    grind [State.setSlot_slot, State.setPoint_slot]

/-- A bind of an unbound point to a slot that has no point and now carries the point's identity. -/
theorem State.BindingSound.link {s : State} (h : s.BindingSound) {p : PointId} {n : SlotId} {r : SlotRec} {x : Identity}
    (hslot : (s.slot n).point = none) (hpoint : (s.point p).boundSlot = none) (hx : (s.point p).identity = some x)
    (hr : r.identity = some x) : ((s.setSlot n r).linked p n).BindingSound := by
  constructor
  case slotPoint =>
    intro y
    have := h.slotPoint y
    grind [State.linked_slot, State.setSlot_slot, SlotRec.boundTo]
  case oneToOne =>
    intro y q
    have := h.oneToOne y q
    have := h.oneToOne n q
    have := h.oneToOne y p
    grind [State.linked_slot, State.linked_point, State.setSlot_slot, State.setSlot_point, SlotRec.boundTo,
      PointRec.boundTo]
  case sameIdentity =>
    intro y q
    have := h.sameIdentity y q
    grind [State.linked_slot, State.linked_point, State.setSlot_slot, State.setSlot_point, SlotRec.boundTo,
      PointRec.boundTo]
  case slotIdentity =>
    intro y
    have := h.slotIdentity y
    grind [State.linked_slot, State.setSlot_slot, SlotRec.boundTo]
  case distinct =>
    intro y z
    have := h.distinct y z
    grind [State.linked_point, State.setSlot_point, PointRec.boundTo]
  case valid =>
    intro y
    have := h.valid y
    grind [State.linked_point, State.setSlot_point, PointRec.boundTo]
  case raw =>
    intro y
    have := h.raw y
    grind [State.linked_point, State.setSlot_point, PointRec.boundTo]
  case indications =>
    intro y
    have := h.indications y
    grind [State.linked_slot, State.setSlot_slot, SlotRec.boundTo]

/-- An unbound point may be given a valid identity that no other point holds. -/
theorem State.BindingSound.patch {s : State} (h : s.BindingSound) {p : PointId} {r : PointRec}
    (hslot : (s.point p).boundSlot = none) (hbound : r.boundSlot = none) (hraw : r.raw = (s.point p).raw)
    (hmay : s.MayPatch p r.identity) : (s.setPoint p r).BindingSound where
  slotPoint := h.slotPoint
  oneToOne n x := by
    have := h.oneToOne n x
    grind [State.setPoint_point, State.setPoint_slot]
  sameIdentity n x := by
    have := h.sameIdentity n x
    have := h.oneToOne n x
    grind [State.setPoint_point, State.setPoint_slot]
  slotIdentity := h.slotIdentity
  distinct x y := by
    have := h.distinct x y
    cases hi : r.identity <;> grind [State.setPoint_point, State.MayPatch]
  valid x i := by
    have := h.valid x i
    grind [State.setPoint_point, State.MayPatch]
  raw x := by
    have := h.raw x
    grind [State.setPoint_point]
  indications := h.indications

theorem State.BindingSound.released (pending : List Instr) (line : Level) (estop : Bool) :
    (State.released pending line estop).BindingSound := by
  constructor <;> intros <;> simp_all [State.released_slot, State.released_point, SlotRec.reset, PointRec.reset]

theorem SlotRec.emptied_bare (r : SlotRec) : r.emptied.state = .empty ∧ r.emptied.point = none ∧
    r.emptied.identity = none ∧ r.emptied.candidate = none ∧ r.emptied.accepted = none := ⟨rfl, rfl, rfl, rfl, rfl⟩

theorem State.BindingSound.edit {s t : State} (h : s.BindingSound) (hedit : s.Edit t) : t.BindingSound := by
  cases hedit with
  | release pending line estop => exact .released pending line estop
  | points v hv =>
    exact h.congr (fun p => ⟨(hv p).identity, (hv p).boundSlot, (hv p).raw⟩) fun n => .refl _
  | slots v hv => exact h.congr (fun _ => ⟨rfl, rfl, rfl⟩) hv
  | members g ps =>
    refine h.congr (fun p => ?_) fun n => SlotRec.EditTo.refl s.slots[n]
    change ((s.replaceMembers g ps).point p).identity = _ ∧ ((s.replaceMembers g ps).point p).boundSlot = _ ∧
      ((s.replaceMembers g ps).point p).raw = _
    rw [State.replaceMembers_point]
    split_ifs <;> exact ⟨rfl, rfl, rfl⟩
  | installs j p c => exact h.setPoint rfl rfl (h.raw p)
  | position n p x hp => exact h.setPoint rfl rfl fun _ hnone => nomatch hnone.symm.trans ((h.oneToOne n p).mp hp)
  | patch p i lo hi trim hslot _ hmay => exact h.patch hslot hslot rfl hmay
  | joins n hempty =>
    have hstate : (s.slot n).state ≠ .bound := hempty.trans_ne nofun
    obtain ⟨hpoint, hidentity, hcandidate, haccepted⟩ := h.slot_bare hstate (hempty.trans_ne nofun)
    exact (h.setSlot (r := { s.slot n with state := .joining, presence := _, miss := _ }) hpoint nofun hpoint
      ⟨fun hne => absurd hidentity hne, nofun⟩ hcandidate haccepted).of_tables rfl rfl
  | vanishes n a _ hbare =>
    have hpoint := hbare.elim h.point_none id
    exact (h.setSlot (r := (s.slot n).emptied) hpoint nofun rfl ⟨fun hne => absurd rfl hne, nofun⟩ rfl rfl).of_tables
      rfl rfl
  | unlinks p n r hlinked hr =>
    have hpoint := hlinked.elim id (h.oneToOne n p).mpr
    have hidentity := (h.sameIdentity n p hpoint).1
    refine State.BindingSound.of_tables (s := (s.setSlot n r).setPoint p (s.point p).unbound) ?_ rfl rfl
    rcases hr with rfl | rfl
    · exact h.unlink hpoint nofun rfl ⟨fun hne => absurd rfl hne, nofun⟩ rfl rfl
    · exact h.unlink hpoint nofun rfl ⟨fun _ => rfl, fun _ => hidentity⟩ rfl rfl
  | relinks p n x hforeign hidentity hx hnone =>
    have hpoint := h.point_none (hforeign.trans_ne nofun : (s.slot n).state ≠ .bound)
    have := h.link hpoint hnone hx hidentity
    rw [State.setSlot_self] at this
    exact this.of_tables rfl rfl
  | identFails j _ _ hjoining =>
    have hpoint := h.point_none (hjoining.trans_ne nofun : (s.slot j.slot).state ≠ .bound)
    exact (h.setSlot (r := (s.slot j.slot).emptied) hpoint nofun rfl ⟨fun hne => absurd rfl hne, nofun⟩ rfl rfl).of_tables
      rfl rfl
  | identForeign j x _ _ hjoining =>
    have hpoint := h.point_none (hjoining.trans_ne nofun : (s.slot j.slot).state ≠ .bound)
    exact (h.setSlot (r := { s.slot j.slot with identity := some x }.madeForeign) hpoint
      (by simp [SlotRec.madeForeign]) rfl ⟨fun _ => rfl, fun _ => Option.some_ne_none x⟩ rfl rfl).of_tables rfl rfl
  | identLinks j x p _ _ hjoining hx hnone =>
    have hpoint := h.point_none (hjoining.trans_ne nofun : (s.slot j.slot).state ≠ .bound)
    exact (h.link (r := { s.slot j.slot with identity := some x }) hpoint hnone hx rfl).of_tables rfl rfl
  | _ => exact h.of_tables rfl rfl

/-! ## Counters -/

theorem State.CountersSound.of_tables {s t : State} (h : s.CountersSound) (hslots : t.slots = s.slots)
    (hbus : t.bus = s.bus) : t.CountersSound := by
  rw [State.countersSound_iff] at *
  simp only [State.slot, hslots, hbus]
  exact h

theorem State.CountersSound.setSlot {s : State} (h : s.CountersSound) {n : SlotId} {r : SlotRec}
    (hr : (s.slot n).Counted → r.Counted) : (s.setSlot n r).CountersSound := by
  rw [State.countersSound_iff] at *
  refine ⟨fun x => ?_, h.2⟩
  rw [State.setSlot_slot]
  split_ifs
  · exact hr (h.1 n)
  · exact h.1 x

/-- A slot that holds its counters through a change of state from one but EMPTY to another. -/
theorem SlotRec.Counted.of_present {r r' : SlotRec} (h : r.Counted) (hstate : r.state ≠ .empty)
    (hstate' : r'.state ≠ .empty) (hpresence : r'.presence = r.presence) (hmiss : r'.miss = r.miss) : r'.Counted :=
  ⟨fun he => absurd he hstate', fun _ => hpresence ▸ hmiss ▸ h.2 hstate⟩

theorem SlotRec.Counted.emptied (r : SlotRec) : r.emptied.Counted := ⟨fun _ => ⟨Nat.zero_le 3, rfl⟩, fun hne => absurd rfl hne⟩

theorem State.CountersSound.released (pending : List Instr) (line : Level) (estop : Bool) :
    (State.released pending line estop).CountersSound :=
  (State.countersSound_iff _).mpr ⟨fun n => by
    rw [State.released_slot]
    exact ⟨fun _ => ⟨Nat.zero_le 3, rfl⟩, fun hne => absurd rfl hne⟩, Nat.zero_lt_succ 15⟩

theorem State.CountersSound.edit {s t : State} (hbinding : s.BindingSound) (h : s.CountersSound) (hedit : s.Edit t) :
    t.CountersSound := by
  cases hedit with
  | release pending line estop => exact .released pending line estop
  | bus b hb =>
    rw [State.countersSound_iff] at *
    exact ⟨h.1, hb h.2⟩
  | slots v hv =>
    rw [State.countersSound_iff] at *
    exact ⟨fun n => (hv n).counted (h.1 n), h.2⟩
  | joins n =>
    exact (h.setSlot (r := { s.slot n with state := .joining, presence := _, miss := _ }) fun _ =>
      ⟨nofun, fun _ => ⟨rfl, Nat.zero_le 7⟩⟩).of_tables rfl rfl
  | vanishes n a => exact (h.setSlot fun _ => SlotRec.Counted.emptied (s.slot n)).of_tables rfl rfl
  | unlinks p n r hlinked hr =>
    have hpoint := hlinked.elim id (hbinding.oneToOne n p).mpr
    have hbound : (s.slot n).state = .bound := (hbinding.slotPoint n).mpr (hpoint ▸ nofun)
    refine State.CountersSound.of_tables (s := s.setSlot n r) (h.setSlot fun hn => ?_) rfl rfl
    rcases hr with rfl | rfl
    · exact .emptied _
    · exact hn.of_present (r' := (s.slot n).madeForeign) (hbound.trans_ne nofun) nofun rfl rfl
  | relinks p n x hforeign =>
    exact (h.setSlot fun hn => hn.of_present (r' := (s.slot n).boundTo p) (hforeign.trans_ne nofun) nofun rfl rfl).of_tables
      rfl rfl
  | identFails j => exact (h.setSlot fun _ => SlotRec.Counted.emptied (s.slot j.slot)).of_tables rfl rfl
  | identForeign j x _ _ hjoining =>
    exact (h.setSlot fun hn => hn.of_present (r' := { s.slot j.slot with identity := some x }.madeForeign)
      (hjoining.trans_ne nofun) (by simp [SlotRec.madeForeign]) rfl rfl).of_tables rfl rfl
  | identLinks j x p _ _ hjoining =>
    refine State.CountersSound.of_tables (s := s.setSlot j.slot ({ s.slot j.slot with identity := some x }.boundTo p))
      (h.setSlot fun hn => hn.of_present (hjoining.trans_ne nofun) (by simp [SlotRec.boundTo]) rfl rfl) ?_ rfl
    simp [State.linked]
  | _ => exact h.of_tables rfl rfl

end Sys2Proof.Machine
end

section
/-!
Every edit keeps the laws of the join list and the port service queue (O59).
-/
namespace Sys2Proof.Machine

/-- An entry of the join list names a slot that is JOINING or BOUND. -/
theorem State.ServiceSound.joinState {s : State} (h : s.ServiceSound) {e : JoinEntry} (he : e ∈ s.service.joinList) :
    (s.slot e.slot).state = .joining ∨ (s.slot e.slot).state = .bound := by
  cases hk : e.kind with
  | full => exact .inl (h.fullJoining e he hk)
  | calibration => exact .inr (h.calibrationBound e he hk)

/-- The law after entries have left both lists, with no IDENT newly active and the slots' states as they were. -/
theorem State.ServiceSound.of_sublists {s t : State} (h : s.ServiceSound)
    (hstate : ∀ n, (t.slot n).state = (s.slot n).state) (hjoin : t.service.joinList.Sublist s.service.joinList)
    (hqueue : t.service.portQueue.Sublist s.service.portQueue)
    (hactive : ∀ j, t.service.active = some j → j.kind = .ident →
      ∃ j0, s.service.active = some j0 ∧ j0.kind = .ident ∧ j0.slot = j.slot) : t.ServiceSound where
  joinOnce := h.joinOnce.sublist (hjoin.map _)
  fullJoining e he hk := by rw [hstate]; exact h.fullJoining e (hjoin.subset he) hk
  calibrationBound e he hk := by rw [hstate]; exact h.calibrationBound e (hjoin.subset he) hk
  identJoining j hj hk := by
    obtain ⟨j0, hj0, hk0, hslot⟩ := hactive j hj hk
    obtain ⟨hjoining, hnone⟩ := h.identJoining j0 hj0 hk0
    rw [hstate, ← hslot]
    exact ⟨hjoining, fun e he => hnone e (hjoin.subset he)⟩
  portQueue := hqueue.length_le.trans h.portQueue
  perPort q := (hqueue.filter _).length_le.trans (h.perPort q)

theorem State.ServiceSound.congr {s t : State} (h : s.ServiceSound) (hstate : ∀ n, (t.slot n).state = (s.slot n).state)
    (hservice : t.service = s.service) : t.ServiceSound :=
  h.of_sublists hstate (hservice ▸ .refl _) (hservice ▸ .refl _) fun j hj hk => ⟨j, hservice ▸ hj, hk, rfl⟩

/-- The law after slot n has changed its state, when no join entry and no IDENT is left that concerns it. -/
theorem State.ServiceSound.of_slot {s t : State} (h : s.ServiceSound) (n : SlotId)
    (hstate : ∀ x, x ≠ n → (t.slot x).state = (s.slot x).state)
    (hjoin : t.service.joinList.Sublist s.service.joinList) (hgone : ∀ e ∈ t.service.joinList, e.slot ≠ n)
    (hqueue : t.service.portQueue = s.service.portQueue)
    (hactive : ∀ j, t.service.active = some j → j.kind = .ident → j.slot ≠ n ∧ s.service.active = some j) :
    t.ServiceSound where
  joinOnce := h.joinOnce.sublist (hjoin.map _)
  fullJoining e he hk := by rw [hstate _ (hgone e he)]; exact h.fullJoining e (hjoin.subset he) hk
  calibrationBound e he hk := by rw [hstate _ (hgone e he)]; exact h.calibrationBound e (hjoin.subset he) hk
  identJoining j hj hk := by
    obtain ⟨hne, hold⟩ := hactive j hj hk
    obtain ⟨hjoining, hnone⟩ := h.identJoining j hold hk
    rw [hstate _ hne]
    exact ⟨hjoining, fun e he => hnone e (hjoin.subset he)⟩
  portQueue := hqueue ▸ h.portQueue
  perPort q := hqueue ▸ h.perPort q

/-- The law after an entry for a slot that has left EMPTY or FOREIGN is appended to the join list. -/
theorem State.ServiceSound.of_append {s t : State} (h : s.ServiceSound) (e : JoinEntry)
    (hstate : ∀ x, x ≠ e.slot → (t.slot x).state = (s.slot x).state)
    (hbefore : (s.slot e.slot).state ≠ .joining ∧ (s.slot e.slot).state ≠ .bound)
    (hafter : (t.slot e.slot).state = match e.kind with | .full => .joining | .calibration => .bound)
    (hservice : t.service = { s.service with joinList := s.service.joinList ++ [e] }) : t.ServiceSound := by
  have hgone : ∀ e' ∈ s.service.joinList, e'.slot ≠ e.slot := fun e' he' heq => by
    have hst := h.joinState he'
    rw [heq] at hst
    exact hst.elim hbefore.1 hbefore.2
  have hident : ∀ j, s.service.active = some j → j.kind = .ident → j.slot ≠ e.slot := fun j hj hk heq =>
    hbefore.1 (heq ▸ (h.identJoining j hj hk).1)
  constructor
  case joinOnce =>
    rw [hservice, List.map_append]
    refine h.joinOnce.append (List.nodup_singleton _) ?_
    rintro x hx hx'
    obtain ⟨e', he', rfl⟩ := List.mem_map.mp hx
    exact hgone e' he' (List.mem_singleton.mp hx')
  case fullJoining =>
    intro e' he' hk
    rw [hservice] at he'
    rcases List.mem_append.mp he' with hold | hnew
    · rw [hstate _ (hgone e' hold)]
      exact h.fullJoining e' hold hk
    · rw [List.mem_singleton.mp hnew] at hk ⊢
      rw [hafter, hk]
  case calibrationBound =>
    intro e' he' hk
    rw [hservice] at he'
    rcases List.mem_append.mp he' with hold | hnew
    · rw [hstate _ (hgone e' hold)]
      exact h.calibrationBound e' hold hk
    · rw [List.mem_singleton.mp hnew] at hk ⊢
      rw [hafter, hk]
  case identJoining =>
    intro j hj hk
    rw [hservice] at hj ⊢
    obtain ⟨hjoining, hnone⟩ := h.identJoining j hj hk
    rw [hstate _ (hident j hj hk)]
    refine ⟨hjoining, fun e' he' => ?_⟩
    rcases List.mem_append.mp he' with hold | hnew
    · exact hnone e' hold
    · rw [List.mem_singleton.mp hnew]
      exact (hident j hj hk).symm
  case portQueue => rw [hservice]; exact h.portQueue
  case perPort => rw [hservice]; exact h.perPort

/-- R41: the oldest join entry becomes the active job. -/
theorem State.ServiceSound.joinStarts {s : State} (h : s.ServiceSound) {e : JoinEntry} {rest : List JoinEntry}
    (hlist : s.service.joinList = e :: rest) : ((s.setJoinList rest).setActive (some (s.joinJob e))).ServiceSound := by
  have honce := h.joinOnce
  rw [hlist, List.map_cons, List.nodup_cons] at honce
  have hsub : rest ⊆ s.service.joinList := hlist ▸ List.subset_cons_self e rest
  constructor
  case joinOnce => exact honce.2
  case fullJoining => exact fun e' he' => h.fullJoining e' (hsub he')
  case calibrationBound => exact fun e' he' => h.calibrationBound e' (hsub he')
  case identJoining =>
    rintro j hj hk
    cases hj
    cases hkind : e.kind with
    | full =>
      have hslot : (s.joinJob e).slot = e.slot := by rw [State.joinJob, hkind]; rfl
      rw [hslot]
      exact ⟨h.fullJoining e (hlist ▸ List.mem_cons_self) hkind,
        fun e' he' heq => honce.1 (heq ▸ List.mem_map_of_mem he')⟩
    | calibration =>
      rw [State.joinJob, hkind] at hk
      cases hk
  case portQueue => exact h.portQueue
  case perPort => exact h.perPort

/-- R42: an entry joins a queue that has room for it. -/
theorem State.ServiceSound.enqueue {s : State} (h : s.ServiceSound) {e : PortEntry} (hroom : s.queueFull e.port = false) :
    (s.setPortQueue (s.service.portQueue ++ [e])).ServiceSound := by
  simp only [State.queueFull, Bool.or_eq_false_iff, decide_eq_false_iff_not, not_le] at hroom
  refine { h with portQueue := ?_, perPort := fun q => ?_ }
  · change (s.service.portQueue ++ [e]).length ≤ 6
    rw [List.length_append]
    exact hroom.2
  · change ((s.service.portQueue ++ [e]).filter fun x => x.port == q).length ≤ 2
    rw [List.filter_append, List.length_append, List.filter_singleton]
    by_cases hq : e.port = q
    · rw [← hq, beq_self_eq_true]
      exact hroom.1
    · rw [beq_false_of_ne hq]
      exact h.perPort q

theorem PortEntry.job_kind (e : PortEntry) : e.job.kind ≠ .ident := by
  cases hw : e.write <;> simp [PortEntry.job, newJob, hw]

theorem State.ServiceSound.released (pending : List Instr) (line : Level) (estop : Bool) :
    (State.released pending line estop).ServiceSound := by
  constructor <;> simp [State.released, State.reset]

theorem State.mem_dropJoin {s : State} {n : SlotId} {e : JoinEntry}
    (he : e ∈ s.service.joinList.filter fun e => !(e.slot == n)) : e.slot ≠ n := by
  simpa using (List.mem_filter.mp he).2

theorem State.ServiceSound.edit {s t : State} (hbinding : s.BindingSound) (h : s.ServiceSound) (hedit : s.Edit t) :
    t.ServiceSound := by
  cases hedit with
  | release pending line estop => exact .released pending line estop
  | slots v hv => exact h.congr (fun n => (hv n).state) rfl
  | members g ps => exact h.congr (fun n => (rfl : s.slots[n].state = s.slots[n].state)) rfl
  | joinStarts e rest hlist => exact h.joinStarts hlist
  | queue l hl => exact h.of_sublists (fun _ => rfl) (.refl _) hl fun j hj hk => ⟨j, hj, hk, rfl⟩
  | portStarts e l _ hl =>
    refine h.of_sublists (fun _ => rfl) (.refl _) hl fun j hj hk => ?_
    cases hj
    exact absurd hk e.job_kind
  | enqueue e hroom => exact h.enqueue hroom
  | job j j' hj hkind hslot =>
    refine h.of_sublists (fun _ => rfl) (.refl _) (.refl _) fun k hk hident => ?_
    cases hk
    exact ⟨j, hj, hkind ▸ hident, hslot.symm⟩
  | jobEnds => exact h.of_sublists (fun _ => rfl) (.refl _) (.refl _) fun k hk => nomatch hk
  | joins n hempty =>
    refine h.of_append ⟨n, .full⟩ (fun x hx => ?_) ⟨hempty.trans_ne nofun, hempty.trans_ne nofun⟩ ?_ rfl
    · exact congrArg SlotRec.state ((State.setSlot_slot ..).trans (if_neg hx))
    · exact congrArg SlotRec.state ((State.setSlot_slot ..).trans (if_pos rfl))
  | vanishes n a _ _ ha =>
    refine h.of_slot n (fun x hx => congrArg SlotRec.state ((State.setSlot_slot ..).trans (if_neg hx)))
      List.filter_sublist (fun e => State.mem_dropJoin) rfl fun j hj hk => ?_
    rcases ha with rfl | ⟨rfl, hother⟩
    · cases hj
    · exact ⟨hother j hj, hj⟩
  | unlinks p n r hlinked =>
    have hpoint := hlinked.elim id (hbinding.oneToOne n p).mpr
    have hbound : (s.slot n).state = .bound := (hbinding.slotPoint n).mpr (hpoint ▸ nofun)
    refine h.of_slot n (fun x hx => congrArg SlotRec.state ((State.setSlot_slot ..).trans (if_neg hx)))
      List.filter_sublist (fun e => State.mem_dropJoin) rfl fun j hj hk => ⟨fun heq => ?_, hj⟩
    have hjoining := (h.identJoining j hj hk).1
    rw [heq, hbound] at hjoining
    cases hjoining
  | relinks p n x hforeign =>
    refine h.of_append ⟨n, .calibration⟩ (fun x hx => ?_) ⟨hforeign.trans_ne nofun, hforeign.trans_ne nofun⟩ ?_ rfl
    · exact congrArg SlotRec.state ((State.linked_slot ..).trans (if_neg hx))
    · exact congrArg SlotRec.state ((State.linked_slot ..).trans (if_pos rfl))
  | identFails j hj hk =>
    exact h.of_slot j.slot (fun x hx => congrArg SlotRec.state ((State.setSlot_slot ..).trans (if_neg hx)))
      (.refl _) (h.identJoining j hj hk).2 rfl fun k hk => nomatch hk
  | identForeign j x hj hk =>
    exact h.of_slot j.slot (fun x hx => congrArg SlotRec.state ((State.setSlot_slot ..).trans (if_neg hx)))
      (.refl _) (h.identJoining j hj hk).2 rfl fun k hk => nomatch hk
  | identLinks j x p hj hk =>
    refine h.of_slot j.slot (fun y hy => congrArg SlotRec.state ?_) (.refl _) (h.identJoining j hj hk).2 rfl ?_
    · exact (State.linked_slot ..).trans ((if_neg hy).trans ((State.setSlot_slot ..).trans (if_neg hy)))
    · rintro k hk hident
      cases hk
      cases hident
  | _ => exact h.congr (fun _ => rfl) rfl

end Sys2Proof.Machine
end

section
/-!
Operations over notices, cues, groups and points as edits: each shared operation of the Motion Engine, the Stop Unit and
the Cue Engine is a sequence of edits. Where the model changes the Stop Unit or a port before it stops or faults the
groups, the two parts are exchanged first, so that the laws hold between them.
-/
namespace Sys2Proof.Machine

/-! ## Single edits -/

theorem State.edits_free (s : State) (inReset : Bool) (now choice : Nat) (warn : Warn) :
    s.Edits { s with inReset := inReset, now := now, choice := choice, warn := warn } :=
  (State.Edit.free s s.pending inReset now choice s.cue warn).edits

theorem State.path_setCue (s : State) (c : Cue) : s.Path (s.setCue c) :=
  .single (State.Edit.free s s.pending s.inReset s.now s.choice c s.warn)

theorem State.edits_setCue {s : State} {c : Cue} (h : s.cue.Sound → c.Sound) : s.Edits (s.setCue c) :=
  ⟨s.path_setCue c, h, rfl⟩

/-- A notice keeps the set within its laws, whichever case of R168 applies. -/
theorem NoticeSet.Sound.record {n : NoticeSet} (h : n.Sound) (k : NoticeKind) (u : Subject) : (n.record k u).Sound := by
  unfold NoticeSet.record
  split_ifs with hsuppressed hstands hroom
  · exact h
  · refine { h with size := ?_, distinct := ?_, counts := fun r hr => ?_ }
    · rw [List.length_map]
      exact h.size
    · have hkey : ((fun r : NoticeRec => (r.kind, r.subject)) ∘ fun r =>
          if r.kind = k ∧ r.subject = u then { r with count := min (r.count + 1) 255 } else r) =
          fun r => (r.kind, r.subject) := by
        funext r
        simp only [Function.comp_apply]
        split_ifs <;> rfl
      rw [List.map_map, hkey]
      exact h.distinct
    · obtain ⟨r0, hr0, rfl⟩ := List.mem_map.mp hr
      have hcount := h.counts r0 hr0
      split_ifs
      · constructor <;> dsimp only <;> omega
      · exact hcount
  · refine { h with size := ?_, distinct := ?_, counts := fun r hr => ?_ }
    · rw [List.length_append]
      exact hroom
    · rw [List.map_append]
      refine h.distinct.append (List.nodup_singleton _) fun x hx hx' => hstands ?_
      obtain ⟨r, hr, rfl⟩ := List.mem_map.mp hx
      cases List.mem_singleton.mp hx'
      exact List.any_eq_true.mpr ⟨r, hr, by simp⟩
    · rcases List.mem_append.mp hr with hold | hnew
      · exact h.counts r hold
      · rw [List.mem_singleton.mp hnew]
        exact ⟨le_refl 1, Nat.le_of_ble_eq_true rfl⟩
  · exact ⟨h.size, h.distinct, h.counts, h.suppress⟩

theorem State.edits_notify (s : State) (q : Port) (k : NoticeKind) (u : Subject) : s.Edits (s.notify q k u) :=
  (State.Edit.notice s q _ fun h => h.record k u).edits

theorem State.edits_notifyAll (s : State) (k : NoticeKind) (u : Subject) : s.Edits (s.notifyAll k u) :=
  ((s.edits_notify .a k u).trans (State.edits_notify _ .b k u)).trans (State.edits_notify _ .c k u)

theorem State.edits_notifyOpt (s : State) (o : Option Port) (k : NoticeKind) (u : Subject) : s.Edits (s.notifyOpt o k u) := by
  cases o with
  | none => exact .rfl s
  | some q => exact s.edits_notify q k u

theorem State.edits_notifyHolder (s : State) (g : GroupId) (k : NoticeKind) (u : Subject) :
    s.Edits (s.notifyHolder g k u) := s.edits_notifyOpt _ k u

theorem State.edits_notifyOwner (s : State) (k : NoticeKind) (u : Subject) : s.Edits (s.notifyOwner k u) :=
  s.edits_notifyOpt _ k u

/-- An edit of one point. -/
theorem State.edits_setPoint {s : State} {p : PointId} {r : PointRec} (h : (s.point p).EditTo (s.pointActive p) r) :
    s.Edits (s.setPoint p r) :=
  (State.Edit.points s _ fun x => by
    change (s.point x).EditTo _ ((s.setPoint p r).point x)
    rw [State.setPoint_point]
    split_ifs with hx
    · exact hx ▸ h
    · exact .refl _ _).edits

/-- An edit of a point's load part. -/
theorem State.edits_setLoad {s : State} {p : PointId} {l : LoadPart} (h : (s.point p).load.Sound → l.Sound) :
    s.Edits (s.setLoad p l) :=
  State.edits_setPoint ⟨rfl, rfl, rfl, rfl, h, fun hr => ⟨hr.stopLead, hr.softLimits, hr.trim⟩, fun _ => ⟨rfl, rfl⟩⟩

theorem State.edits_setStop (s : State) (p : PointId) (t : StopPart) : s.Edits (s.setStop p t) :=
  State.edits_setPoint ⟨rfl, rfl, rfl, rfl, id, fun hr => ⟨hr.stopLead, hr.softLimits, hr.trim⟩, fun _ => ⟨rfl, rfl⟩⟩

/-- An edit of one slot. -/
theorem State.edits_setSlot {s : State} {n : SlotId} {r : SlotRec} (h : (s.slot n).EditTo r) : s.Edits (s.setSlot n r) :=
  (State.Edit.slots s _ fun x => by
    change (s.slot x).EditTo ((s.setSlot n r).slot x)
    rw [State.setSlot_slot]
    split_ifs with hx
    · exact hx ▸ h
    · exact .refl _).edits

theorem State.edits_setGroup {s : State} {g : GroupId} {r : GroupRec} (h : (s.group g).EditTo r) :
    s.Edits (s.setGroup g r) := (State.Edit.group s g r h).edits

/-! ## Edits of a group -/

/-- Every member record is replaced by one of the same point and target, and the group is set in no new motion. -/
theorem GroupRec.EditTo.of_map {r r' : GroupRec} (f : Member → Member) (hmembers : r'.members = r.members.map f)
    (hf : ∀ m, (f m).point = m.point ∧ (f m).target = m.target ∧ (f m).settle = m.settle)
    (hmoving : r'.state = .moving → r.state = .moving) (hactive : r'.state.active = true → r.state.active = true)
    (hbands : r'.bands = r.bands) (hkind : r'.kind = r.kind) (hholder : r'.holder = r.holder)
    (horphaned : r'.orphaned = r.orphaned) : r.EditTo r' where
  points := by
    rw [hmembers, List.map_map]
    exact List.map_congr_left fun m _ => (hf m).1
  source m' hm' := by
    rw [hmembers] at hm'
    obtain ⟨m, hm, rfl⟩ := List.mem_map.mp hm'
    exact ⟨m, hm, (hf m).1.symm, (hf m).2.1.symm, fun hs => (hf m).2.2.symm ▸ hs⟩
  bands := hbands ▸ id
  kind := hkind
  moving := hmoving
  active := hactive
  holder _ := .inl hholder
  orphaned := by rw [hholder, horphaned]; exact id

/-- A group whose members alone are changed. -/
theorem GroupRec.EditTo.updMember {r : GroupRec} (p : PointId) (f : Member → Member)
    (hf : ∀ m ∈ r.members, m.point = p → (f m).point = p ∧
      ∃ m0 ∈ r.members, m0.point = p ∧ m0.target = (f m).target ∧ (m0.settle ≤ 4 → (f m).settle ≤ 4)) :
    r.EditTo (r.updMember p f) where
  points := by
    change (r.members.map _).map _ = _
    rw [List.map_map]
    refine List.map_congr_left fun m hm => ?_
    simp only [Function.comp_apply]
    split_ifs with hp
    · exact (hf m hm hp).1.trans hp.symm
    · rfl
  source m' hm' := by
    obtain ⟨m, hm, rfl⟩ := List.mem_map.mp hm'
    split_ifs with hp
    · obtain ⟨hpoint, m0, hm0, hpoint0, htarget, hsettle⟩ := hf m hm hp
      exact ⟨m0, hm0, hpoint0.trans hpoint.symm, htarget, hsettle⟩
    · exact ⟨m, hm, rfl, rfl, id⟩
  bands := id
  kind := rfl
  moving := id
  active := id
  holder _ := .inl rfl
  orphaned := id

/-- A group in which one member's record keeps its point, target and share-settle count. -/
theorem GroupRec.EditTo.updMember_same {r : GroupRec} (p : PointId) {f : Member → Member}
    (hf : ∀ m, (f m).point = m.point ∧ (f m).target = m.target ∧ (f m).settle = m.settle) :
    r.EditTo (r.updMember p f) :=
  .updMember p f fun m hm hp => ⟨(hf m).1.trans hp, m, hm, hp, (hf m).2.1.symm, fun hs => (hf m).2.2.symm ▸ hs⟩

/-- An edit of a group's claim while the group is at rest or has no holder, or that leaves the holder as it is. -/
theorem GroupRec.EditTo.claim {r : GroupRec} {holder : Option Port} {orphaned : Bool}
    (hholder : r.state.active = true → holder = r.holder ∨ r.holder = none)
    (horphaned : (r.orphaned = true → r.holder ≠ none) → orphaned = true → holder ≠ none) :
    r.EditTo { r with holder := holder, orphaned := orphaned } :=
  ⟨rfl, fun m hm => ⟨m, hm, rfl, rfl, id⟩, id, rfl, id, id, hholder, horphaned⟩

theorem GroupRec.EditTo.setBands {r : GroupRec} {b : Bands} (hb : b.InRange) : r.EditTo { r with bands := b } :=
  ⟨rfl, fun m hm => ⟨m, hm, rfl, rfl, id⟩, fun _ => hb, rfl, id, id, fun _ => .inl rfl, id⟩

theorem GroupRec.EditTo.faulted {r : GroupRec} (c : FaultCause) :
    r.EditTo { r.updAll Member.halted with state := .fault, fault := some c } :=
  .of_map Member.halted rfl (fun _ => ⟨rfl, rfl, rfl⟩) nofun nofun rfl rfl rfl rfl

theorem GroupRec.EditTo.rested {r : GroupRec} : r.EditTo { r.updAll Member.rested with state := .idle } :=
  .of_map Member.rested rfl (fun _ => ⟨rfl, rfl, rfl⟩) nofun nofun rfl rfl rfl rfl

theorem GroupRec.EditTo.stopped {r : GroupRec} (h : r.state = .moving) (c : StopCause) : r.EditTo (r.stopped c) :=
  .of_map (fun m => { m with state := if m.state = .done then .done else .halt, runTimer := none }) rfl
    (fun _ => ⟨rfl, rfl, rfl⟩) nofun (fun _ => (GroupState.active_iff _).mpr (.inl h)) rfl rfl rfl rfl

/-! ## Faults and stops -/

theorem Cue.Sound.owned {c : Cue} (h : c.Sound) (hstate : c.state ≠ .off) : c.owner ≠ none :=
  fun hnone => hstate (h.owner hnone)

/-- An engine that a report has stalled. -/
theorem Cue.Sound.stalled {c : Cue} (h : c.Sound) (hrunning : c.state = .running) (why : Stall) :
    Cue.Sound { c with firedGroup := none, state := .stalled, stall := some why } :=
  ⟨h.pointer, h.count, fun hnone => absurd hnone (h.owned (hrunning.trans_ne nofun)), iff_of_false (absurd rfl) nofun⟩

theorem State.edits_cueFailed (s : State) (g : GroupId) (why : Stall) : s.Edits (s.cueFailed g why) := by
  unfold State.cueFailed
  split_ifs with hrunning
  · exact (State.edits_setCue fun h => h.stalled hrunning.1 why).trans (State.edits_notifyOwner _ _ _)
  · exact .rfl s

theorem State.edits_faultGroup (s : State) (g : GroupId) (k : FaultKind) (p : Option PointId) :
    s.Edits (s.faultGroup g k p) := by
  have hset := (State.edits_setGroup (s := s) (g := g) (.faulted ⟨k, p⟩)).trans
    (State.edits_notifyAll _ .groupFault (.group g))
  simp only [State.faultGroup]
  split_ifs
  · exact hset.trans (State.edits_cueFailed _ g .faulted)
  · exact hset
  · exact .rfl s

theorem State.edits_faultPoint (s : State) (p : PointId) (k : FaultKind) : s.Edits (s.faultPoint p k) := by
  unfold State.faultPoint
  split
  · exact s.edits_faultGroup _ k _
  · exact .rfl s

theorem State.edits_endStopping (s : State) (g : GroupId) : s.Edits (s.endStopping g) := by
  have hset := (State.edits_setGroup (s := s) (g := g) .rested).trans
    (State.edits_notifyHolder _ g .groupStopped (.group g))
  simp only [State.endStopping]
  split_ifs
  · exact hset.trans (State.edits_cueFailed _ g .stopped)
  · exact hset
  · exact .rfl s

theorem State.edits_stopGroup (s : State) (g : GroupId) (c : StopCause) : s.Edits (s.stopGroup g c) := by
  by_cases hmoving : (s.group g).state = .moving
  · rw [State.stopGroup_of_moving hmoving]
    exact (State.edits_setGroup (.stopped hmoving c)).trans (State.edits_endStopping _ g)
  · rw [State.stopGroup_of_not_moving hmoving]

/-- A fold of operations that are edits each. -/
theorem State.edits_foldl {α : Type} {f : State → α → State} (hf : ∀ t a, State.Edits t (f t a)) (l : List α) (s : State) :
    s.Edits (l.foldl f s) := State.fold_keeps s.Edits f (fun t a h => h.trans (hf t a)) l s (.rfl s)

theorem State.edits_stopHeld (s : State) (q : Port) (c : StopCause) : s.Edits (s.stopHeld q c) :=
  State.edits_foldl (fun t g => by
    split_ifs
    · exact t.edits_stopGroup g c
    · exact .rfl t) _ s

theorem State.edits_stopAll (s : State) (c : StopCause) : s.Edits (s.stopAll c) :=
  State.edits_foldl (fun t g => t.edits_stopGroup g c) _ s

/-! ## Operations that do not see the Stop Unit, the Service Engine and the ports -/

/-- The state with another Stop Unit, Service Engine and ports. -/
def State.over (s : State) (u : StopUnit) (e : Service) (v : PerPort PortRec) : State :=
  { s with stopUnit := u, service := e, ports := v }

section
variable (s : State) (u : StopUnit) (e : Service) (v : PerPort PortRec)

theorem State.over_group (g : GroupId) : (s.over u e v).group g = s.group g := rfl

theorem State.over_notifyOpt (o : Option Port) (k : NoticeKind) (x : Subject) :
    (s.over u e v).notifyOpt o k x = (s.notifyOpt o k x).over u e v := by cases o <;> rfl

theorem State.over_cueFailed (g : GroupId) (why : Stall) :
    (s.over u e v).cueFailed g why = (s.cueFailed g why).over u e v := by
  change (if s.cue.state = .running ∧ s.cue.firedGroup = some g then _ else _) = State.over (if _ then _ else _) u e v
  by_cases h : s.cue.state = .running ∧ s.cue.firedGroup = some g
  · rw [if_pos h, if_pos h]
    exact State.over_notifyOpt (s.setCue _) u e v s.cue.owner _ _
  · rw [if_neg h, if_neg h]

theorem State.over_faultGroup (g : GroupId) (k : FaultKind) (p : Option PointId) :
    (s.over u e v).faultGroup g k p = (s.faultGroup g k p).over u e v := by
  have hgroup : (s.over u e v).group g = s.group g := rfl
  by_cases hactive : (s.group g).state.active = true
  · by_cases horigin : (s.group g).origin = .cue
    · simp only [State.faultGroup, hgroup, hactive, horigin, if_true, ← State.over_cueFailed]
      rfl
    · simp only [State.faultGroup, hgroup, hactive, horigin, if_true, if_false]
      rfl
  · simp only [State.faultGroup, hgroup, hactive, if_false, Bool.false_eq_true]

theorem State.over_endStopping (g : GroupId) : (s.over u e v).endStopping g = (s.endStopping g).over u e v := by
  have hgroup : (s.over u e v).group g = s.group g := rfl
  have hstopped : (s.over u e v).memberStopped = s.memberStopped := rfl
  by_cases hend : (s.group g).state = .stopping ∧ (s.group g).members.all s.memberStopped = true
  · by_cases horigin : (s.group g).origin = .cue
    · simp only [State.endStopping, hgroup, hstopped, hend, horigin, and_self, if_true, ← State.over_cueFailed,
        State.notifyHolder, ← State.over_notifyOpt]
      rfl
    · simp only [State.endStopping, hgroup, hstopped, hend, horigin, and_self, if_true, if_false, State.notifyHolder,
        ← State.over_notifyOpt]
      rfl
  · simp only [State.endStopping, hgroup, hstopped, hend, if_false]

theorem State.over_stopGroup (g : GroupId) (c : StopCause) :
    (s.over u e v).stopGroup g c = (s.stopGroup g c).over u e v := by
  by_cases hmoving : (s.group g).state = .moving
  · rw [State.stopGroup_of_moving hmoving, State.stopGroup_of_moving (s := s.over u e v) hmoving,
      ← State.over_endStopping]
    rfl
  · rw [State.stopGroup_of_not_moving hmoving, State.stopGroup_of_not_moving (s := s.over u e v) hmoving]

end

/-- An operation that neither sees nor changes the Stop Unit, the Service Engine and the ports. -/
def Blind (f : State → State) : Prop :=
  (∀ (s : State) u e v, f (s.over u e v) = (f s).over u e v) ∧ ∀ s : State, s.MovesTo (f s)

theorem Blind.foldl {α : Type} {f : State → α → State} (hf : ∀ a, Blind fun t => f t a) (l : List α) :
    Blind fun s => l.foldl f s :=
  ⟨fun _ u e v => List.foldl_hom (State.over · u e v) fun t a => (hf a).1 t u e v,
    fun s => State.fold_keeps s.MovesTo f (fun t a h => h.trans ((hf a).2 t)) l s (.refl s)⟩

theorem Blind.setStopUnit {f : State → State} (hf : Blind f) (s : State) (u : StopUnit) :
    f (s.setStopUnit u) = (f s).setStopUnit u := by
  have hruns := (hf.2 s).runs
  have hover := hf.1 s u s.service s.ports
  rw [← hruns.service, ← hruns.ports] at hover
  exact (congrArg f (by rw [hruns.service, hruns.ports]; rfl)).trans hover

theorem Blind.setPort {f : State → State} (hf : Blind f) (s : State) (q : Port) (r : PortRec) :
    f (s.setPort q r) = (f s).setPort q r := by
  have hruns := (hf.2 s).runs
  have hover := hf.1 s s.stopUnit s.service (s.ports.set q r)
  rw [← (hf.2 s).stopUnit, ← hruns.service, ← hruns.ports] at hover
  exact (congrArg f (by rw [(hf.2 s).stopUnit, hruns.service, hruns.ports]; rfl)).trans hover

theorem blind_stopGroup (g : GroupId) (c : StopCause) : Blind fun s => s.stopGroup g c :=
  ⟨fun s u e v => s.over_stopGroup u e v g c, fun s => s.stopGroup_moves g c⟩

theorem blind_faultGroup (g : GroupId) (k : FaultKind) (p : Option PointId) : Blind fun s => s.faultGroup g k p :=
  ⟨fun s u e v => s.over_faultGroup u e v g k p, fun s => s.faultGroup_moves g k p⟩

theorem blind_stopAll (c : StopCause) : Blind fun s => s.stopAll c := .foldl (fun g => blind_stopGroup g c) allGroups

theorem Blind.ite {f : State → State} (hf : Blind f) {p : State → Prop} [DecidablePred p]
    (hp : ∀ (s : State) (u : StopUnit) (e : Service) (v : PerPort PortRec), p (s.over u e v) ↔ p s) : Blind fun s => if p s then f s else s := by
  refine ⟨fun _ u e v => ?_, fun s => ?_⟩
  · simp only [hp, hf.1, apply_ite (State.over · u e v)]
  · dsimp only
    split_ifs
    · exact hf.2 s
    · exact .refl s

theorem blind_stopHeld (q : Port) (c : StopCause) : Blind fun s => s.stopHeld q c :=
  .foldl (fun g => (blind_stopGroup g c).ite (p := fun t => (t.group g).holder = some q) fun _ _ _ _ => .rfl) allGroups

/-! ## Trips -/

/-- R130 step 3: every MOVING or STOPPING group is faulted, in group order. -/
def State.faultAll (s : State) (cause : GroupId → FaultCause) : State :=
  allGroups.foldl (fun t g => t.faultGroup g (cause g).kind (cause g).subject) s

theorem blind_faultAll (cause : GroupId → FaultCause) : Blind fun s => s.faultAll cause :=
  .foldl (fun g => blind_faultGroup g (cause g).kind (cause g).subject) allGroups

theorem State.edits_faultAll (s : State) (cause : GroupId → FaultCause) : s.Edits (s.faultAll cause) :=
  State.edits_foldl (fun t g => t.edits_faultGroup g _ _) _ s

/-- A condition on each group that an operation on a group brings about there, and keeps elsewhere, holds of every group
after the operation on all of them. -/
theorem State.fold_brings {f : State → GroupId → State} {P : State → GroupId → Prop} (hbrings : ∀ t g, P (f t g) g)
    (hkeeps : ∀ t g x, P t x → P (f t g) x) (s : State) (g : GroupId) : P (allGroups.foldl f s) g := by
  have hfold : ∀ (l : List GroupId) (t : State), (P t g ∨ g ∈ l) → P (l.foldl f t) g := by
    intro l
    induction l with
    | nil => exact fun t h => h.elim id fun hmem => nomatch hmem
    | cons k l ih =>
      intro t h
      refine ih (f t k) ?_
      rcases h with h | hmem
      · exact .inl (hkeeps t k g h)
      · rcases List.mem_cons.mp hmem with rfl | hmem
        · exact .inl (hbrings t g)
        · exact .inr hmem
  exact hfold allGroups s (.inr (List.mem_finRange g))

theorem State.faultGroup_keeps_rest (t : State) (g : GroupId) (k : FaultKind) (p : Option PointId) (x : GroupId)
    (h : (t.group x).state.active = false) : ((t.faultGroup g k p).group x).state.active = false := by
  rw [State.faultGroup_group]
  split_ifs
  · rfl
  · exact h

theorem State.faultAll_rest (s : State) (cause : GroupId → FaultCause) (g : GroupId) :
    ((s.faultAll cause).group g).state.active = false :=
  State.fold_brings (P := fun t x => (t.group x).state.active = false)
    (fun t g => eq_false_of_ne_true (t.faultGroup_not_active g _ _))
    (fun t g x => t.faultGroup_keeps_rest g _ _ x) s g

theorem State.stopGroup_not_moving (t : State) (g : GroupId) (c : StopCause) : ((t.stopGroup g c).group g).state ≠ .moving := by
  by_cases hmoving : (t.group g).state = .moving
  · rw [State.stopGroup_of_moving hmoving, State.endStopping_group]
    split_ifs
    · nofun
    · rw [State.setGroup_group, if_pos rfl]
      nofun
  · rwa [State.stopGroup_of_not_moving hmoving]

theorem State.stopGroup_keeps_rest (t : State) (g : GroupId) (c : StopCause) (x : GroupId)
    (h : (t.group x).state ≠ .moving) : ((t.stopGroup g c).group x).state ≠ .moving := by
  by_cases hx : x = g
  · rw [hx]
    exact t.stopGroup_not_moving g c
  · rwa [t.stopGroup_other hx c]

theorem State.stopAll_rest (s : State) (c : StopCause) (g : GroupId) : ((s.stopAll c).group g).state ≠ .moving :=
  State.fold_brings (P := fun t x => (t.group x).state ≠ .moving) (fun t g => t.stopGroup_not_moving g c)
    (fun t g x => t.stopGroup_keeps_rest g c x) s g

/-- The Stop Unit after a trip. -/
def StopUnit.tripped (u : StopUnit) (c : TripCause) : StopUnit := { u with mains := .tripped, tripCause := c }

/-- A trip of a CLOSED mains, with the faults before the change of the Stop Unit. -/
theorem State.tripMains_of_closed {s : State} (h : s.stopUnit.mains = .closed) (c : TripCause) : s.tripMains c =
    ((s.notifyAll .mainsTripped c.subject).faultAll (s.tripFault c)).setStopUnit (s.stopUnit.tripped c) := by
  rw [← (blind_faultAll (s.tripFault c)).setStopUnit, State.tripMains, if_pos h]
  rfl

theorem State.tripMains_of_tripped {s : State} (h : s.stopUnit.mains ≠ .closed) (c : TripCause) : s.tripMains c = s :=
  if_neg h

theorem State.edits_setStopUnit {s : State} {u : StopUnit} (h : s.StopUnitEdit u) : s.Edits (s.setStopUnit u) :=
  (State.Edit.stopUnit s u h).edits

/-- The Stop Unit becomes TRIPPED when every group has been faulted. -/
theorem State.edits_faultAll_tripped (s : State) (cause : GroupId → FaultCause) {u : StopUnit} (hmains : u.mains = .tripped)
    (hhold : u.hold = s.stopUnit.hold) : s.Edits ((s.faultAll cause).setStopUnit u) := by
  refine (s.edits_faultAll cause).trans (State.edits_setStopUnit ?_)
  refine ⟨fun _ => .inr (s.faultAll_rest cause), fun _ _ => hmains, fun hh => .inl ?_⟩
  rw [((blind_faultAll cause).2 s).stopUnit, ← hhold]
  exact hh

theorem State.edits_tripMains (s : State) (c : TripCause) : s.Edits (s.tripMains c) := by
  by_cases hclosed : s.stopUnit.mains = .closed
  · rw [State.tripMains_of_closed hclosed]
    exact (s.edits_notifyAll _ _).trans (State.edits_faultAll_tripped _ _ rfl rfl)
  · rw [State.tripMains_of_tripped hclosed]

theorem State.edits_runaway (s : State) (p : PointId) : s.Edits (s.runaway p) := by
  unfold State.runaway
  split_ifs
  · exact .rfl s
  · exact ((s.edits_setStop p _).trans (State.edits_notifyAll _ _ _)).trans (State.edits_tripMains _ _)

/-! ## Starts and cues -/

theorem PerPort.some_eq_false_iff (v : PerPort Bool) : v.some = false ↔ v = ⟨false, false, false⟩ := by
  rw [← not_iff_not, Bool.not_eq_false, PerPort.some_eq_true_iff]

theorem dirOf_zero : dirOf 0 = none := rfl

/-- R92: a limited travel that is not 0 leaves every target within its soft limits. -/
theorem State.clampTravel_fits {s : State} {g : GroupId} {d : Int} (h : s.clampTravel g d ≠ 0) {m : Member}
    (hm : m ∈ (s.group g).members) : (s.point m.point).softMin ≤ (s.pos m.point).getD 0 + s.clampTravel g d ∧
      (s.pos m.point).getD 0 + s.clampTravel g d ≤ (s.point m.point).softMax := by
  have hchecked : ∀ {c : Prop} [Decidable c] {x : Int}, (if c then x else 0) ≠ 0 → c ∧ (if c then x else 0) = x := by
    intro c _ x hx
    split_ifs at hx ⊢ with hc
    · exact ⟨hc, rfl⟩
    · exact absurd rfl hx
  obtain ⟨hfit, hvalue⟩ := hchecked h
  rw [show s.clampTravel g d = _ from hvalue]
  exact of_decide_eq_true (List.all_eq_true.mp hfit m.point (List.mem_map_of_mem hm))

/-- A START that passes every check finds what a move needs to begin, whatever it asks for. -/
theorem State.Startable.mayBegin {s : State} {q : Port} {g : GroupId} {e : Option Dir} (h : s.Startable q g e)
    {kind : MoveKind} {applied : Option Int} (htargets : kind = .target → ∃ d, applied = some d ∧
      ∀ m ∈ (s.group g).members, (s.point m.point).softMin ≤ (s.pos m.point).getD 0 + d ∧
        (s.pos m.point).getD 0 + d ≤ (s.point m.point).softMax) : s.MayBegin g kind applied where
  held := ⟨q, h.gate.holder, h.gate.enable⟩
  estop := h.gate.estop
  mains := h.gate.mains
  hold := h.gate.hold
  targets hk := by
    obtain ⟨d, hd, hfit⟩ := htargets hk
    refine ⟨d, hd, fun m hm => ?_⟩
    obtain ⟨x, hx⟩ := Option.ne_none_iff_exists'.mp (h.ready m hm).position
    have hpos : s.pos m.point = some ((x.toNat : Int) + (s.point m.point).trim) := by rw [State.pos, hx]; rfl
    have := hfit m hm
    rw [hpos] at this
    exact ⟨_, hpos, this⟩

theorem State.startCheck_none (s : State) (g : GroupId) (m : Move) : s.startCheck none g m = some .notHolder := rfl

/-- A TARGET move that passes every check, with its notices. -/
theorem State.edits_startTarget {s : State} {q : Port} {g : GroupId} {m : Move} {o : MoveOrigin}
    (h : s.startCheck (some q) g m = none) (d : Int) : s.Edits (
      let d' := s.clampTravel g d
      let s1 := if d' = d then s else s.notifyHolder g .targetClamped (.group g)
      match dirOf d' with
      | some e => (s1.begin g .target e o (some d'), StartResult.moving)
      | none => (s1.notifyHolder g .groupDone (.group g), StartResult.atOnce)).1 := by
  have hstartable := (s.startCheck_eq_none_iff q g m).mp h
  have hclamped : ∀ d', s.Edits (if d' = d then s else s.notifyHolder g .targetClamped (.group g)) := fun d' => by
    split_ifs
    · exact .rfl s
    · exact s.edits_notifyHolder g _ _
  simp only
  split
  next e he =>
    refine (hclamped _).trans (State.Edit.begin _ g .target e o _ ?_).edits
    have hmay : s.MayBegin g .target (some (s.clampTravel g d)) := hstartable.mayBegin fun _ =>
      ⟨_, rfl, fun m hm => State.clampTravel_fits (fun hzero => by rw [hzero, dirOf_zero] at he; cases he) hm⟩
    split_ifs
    · exact hmay
    · obtain ⟨hheld, hestop, hmains, hhold, htargets⟩ := hmay
      have hruns := s.notifyHolder_moves g .targetClamped (.group g)
      have hpoints : ∀ p, (s.notifyHolder g .targetClamped (.group g)).point p = s.point p := fun p => by
        rw [State.point, hruns.points]; rfl
      refine ⟨?_, ?_, ?_, ?_, ?_⟩
      · rw [State.notifyHolder_group]
        simp only [State.port, hruns.runs.ports]
        exact hheld
      · rw [hruns.stopUnit]; exact hestop
      · rw [hruns.stopUnit]; exact hmains
      · rw [hruns.stopUnit]; exact hhold
      · rw [State.notifyHolder_group]
        simp only [State.pos, hpoints]
        exact fun _ => htargets rfl
  next => exact (hclamped _).trans (State.edits_notifyHolder _ g _ _)

theorem State.edits_start (s : State) (req : Option Port) (o : MoveOrigin) (g : GroupId) (m : Move) :
    s.Edits (s.start req o g m).1 := by
  cases req with
  | none =>
    unfold State.start
    exact .rfl s
  | some q =>
    cases hcheck : s.startCheck (some q) g m with
    | some r =>
      unfold State.start
      rw [hcheck]
    | none =>
      have htarget := fun d => State.edits_startTarget (o := o) hcheck d
      unfold State.start
      rw [hcheck]
      cases m with
      | jog d =>
        simp only
        split
        · exact s.edits_notifyHolder g _ _
        · exact (State.Edit.begin s g .jog d o none
            (((s.startCheck_eq_none_iff q g _).mp hcheck).mayBegin nofun)).edits
      | height x => exact htarget (s.travel g (.height x))
      | dist x => exact htarget (s.travel g (.dist x))

theorem State.start_cue (s : State) (req : Option Port) (o : MoveOrigin) (g : GroupId) (m : Move) :
    (s.start req o g m).1.cue = s.cue := by
  unfold State.start
  split
  · rfl
  · split
    · split
      · exact State.notifyOpt_cue ..
      · rfl
    · simp only
      split
      · split_ifs
        · rfl
        · exact State.notifyOpt_cue ..
      · rw [State.notifyHolder, State.notifyOpt_cue]
        split_ifs
        · rfl
        · exact State.notifyOpt_cue ..

/-- With no fired group a report of a failed move goes nowhere. -/
theorem State.cueFailed_of_none {s : State} (h : s.cue.firedGroup = none) (g : GroupId) (why : Stall) :
    s.cueFailed g why = s :=
  if_neg fun hc => nomatch hc.2.symm.trans h

theorem State.endStopping_cue {s : State} (h : s.cue.firedGroup = none) (g : GroupId) :
    (s.endStopping g).cue = s.cue := by
  simp only [State.endStopping, State.notifyHolder]
  split_ifs
  · rw [State.cueFailed_of_none (by rwa [State.notifyOpt_cue]), State.notifyOpt_cue]
    rfl
  · exact State.notifyOpt_cue ..
  · rfl

theorem State.stopGroup_cue {s : State} (h : s.cue.firedGroup = none) (g : GroupId) (c : StopCause) :
    (s.stopGroup g c).cue = s.cue := by
  by_cases hmoving : (s.group g).state = .moving
  · rw [State.stopGroup_of_moving hmoving]
    exact State.endStopping_cue (s := s.setGroup g _) h g
  · rw [State.stopGroup_of_not_moving hmoving]

/-- What the law of the engine leaves standing between the report of a fired group and the next fire. -/
structure Cue.Kept (c : Cue) : Prop where
  pointer : c.pointer ≤ c.list.length
  count : c.list.length ≤ 64
  owner : c.owner ≠ none
  fired : c.firedGroup = none

theorem Cue.Kept.settled {c : Cue} (h : c.Kept) {state : CueState} (hstate : state ≠ .running) :
    Cue.Sound { c with state := state } :=
  ⟨h.pointer, h.count, fun hnone => absurd hnone h.owner, iff_of_false (absurd h.fired) hstate⟩

theorem Cue.Sound.kept {c : Cue} (h : c.Sound) (howner : c.owner ≠ none) : Cue.Kept { c with firedGroup := none } :=
  ⟨h.pointer, h.count, howner, rfl⟩

theorem Cue.Kept.fire {c : Cue} (h : c.Kept) (hentry : c.pointer < c.list.length) (g : GroupId) :
    (c.fired c.pointer g).Sound :=
  ⟨hentry, h.count, fun hnone => absurd hnone h.owner, iff_of_true nofun rfl⟩

theorem State.path_cueReadyOrEnd (s : State) : s.Path s.cueReadyOrEnd := by
  unfold State.cueReadyOrEnd
  split_ifs
  · exact s.path_setCue _
  · exact (s.path_setCue _).trans (State.edits_notifyOwner _ _ _).path

theorem State.cueReadyOrEnd_cue {s : State} (h : s.cue.Kept) :
    s.cueReadyOrEnd.cue.Sound ∧ s.cueReadyOrEnd.cue.owner = s.cue.owner := by
  unfold State.cueReadyOrEnd
  split_ifs
  · exact ⟨h.settled nofun, rfl⟩
  · rw [State.notifyOwner, State.notifyOpt_cue]
    exact ⟨h.settled nofun, rfl⟩

theorem State.path_fireEntry (s : State) : s.Path s.fireEntry.1 := by
  unfold State.fireEntry
  split
  next => exact .refl
  next e _ =>
    simp only
    split
    next =>
      exact (((s.edits_stopGroup e.group .cue).path.trans (State.path_setCue _ _)).trans
        (State.edits_notifyOwner _ _ _).path).trans (State.path_cueReadyOrEnd _)
    next m _ =>
      have hstart := (s.edits_start s.cue.owner .cue e.group m).path
      split
      next => exact (s.path_setCue _).trans (State.edits_notifyOwner _ _ _).path
      next s1 heq =>
        rw [heq] at hstart
        exact hstart.trans ((State.path_setCue _ _).trans (State.edits_notifyOwner _ _ _).path)
      next s1 heq =>
        rw [heq] at hstart
        exact hstart.trans ((State.path_setCue _ _).trans (State.edits_notifyOwner _ _ _).path)

/-- R147 brings the engine within its law again. -/
theorem State.fireEntry_cue {s : State} (h : s.cue.Kept) (hentry : s.cue.pointer < s.cue.list.length ∨ s.cue.Sound) :
    s.fireEntry.1.cue.Sound ∧ s.fireEntry.1.cue.owner = s.cue.owner := by
  unfold State.fireEntry
  split
  next hnone =>
    exact ⟨hentry.resolve_left (Nat.not_lt.mpr (List.getElem?_eq_none_iff.mp hnone)), rfl⟩
  next e hsome =>
    have hlt : s.cue.pointer < s.cue.list.length := (List.getElem?_eq_some_iff.mp hsome).1
    simp only
    split
    next =>
      have hstop := State.stopGroup_cue h.fired e.group .cue
      have hkept := State.cueReadyOrEnd_cue
        (s := ((s.stopGroup e.group .cue).setCue { s.cue with
          firedIndex := some s.cue.pointer, pointer := s.cue.pointer + 1, stall := none }).notifyOwner .cueFired
            (.cue s.cue.pointer))
        (by
          rw [State.notifyOwner, State.notifyOpt_cue]
          exact ⟨hlt, h.count, h.owner, h.fired⟩)
      rw [State.notifyOwner, State.notifyOpt_cue] at hkept
      rw [hstop]
      exact hkept
    next m _ =>
      have hstart := s.start_cue s.cue.owner .cue e.group m
      split
      next =>
        rw [State.notifyOwner, State.notifyOpt_cue]
        exact ⟨⟨h.pointer, h.count, fun hnone => absurd hnone h.owner, iff_of_false (absurd h.fired) nofun⟩, rfl⟩
      all_goals
        next s1 heq =>
          rw [heq] at hstart
          rw [State.notifyOwner, State.notifyOpt_cue, State.setCue_cue, show s1.cue = s.cue from hstart]
          exact ⟨h.fire hlt e.group, rfl⟩

theorem State.path_cueChain (n : Nat) (s : State) : s.Path (State.cueChain n s) := by
  induction n generalizing s with
  | zero => exact (s.path_setCue _).trans (State.path_cueReadyOrEnd _)
  | succ n ih =>
    have hset := s.path_setCue { s.cue with firedGroup := none }
    have hfire := State.path_fireEntry (s.setCue { s.cue with firedGroup := none })
    simp only [State.cueChain]
    split_ifs
    · split <;> rename_i s2 heq <;> rw [heq] at hfire
      · exact (hset.trans hfire).trans (ih s2)
      · exact hset.trans hfire
      · exact hset.trans hfire
    · exact hset.trans (State.path_cueReadyOrEnd _)

theorem State.cueChain_cue (n : Nat) {s : State} (h : s.cue.Sound) (howner : s.cue.owner ≠ none) :
    (State.cueChain n s).cue.Sound := by
  induction n generalizing s with
  | zero => exact (State.cueReadyOrEnd_cue (s := s.setCue _) (h.kept howner)).1
  | succ n ih =>
    simp only [State.cueChain]
    split_ifs with hfollows
    · have hfire := State.fireEntry_cue (s := s.setCue _) (h.kept howner) (.inl hfollows.2)
      split <;> rename_i s2 heq <;> rw [heq] at hfire
      · exact ih hfire.1 (hfire.2.trans_ne howner)
      · exact hfire.1
      · exact hfire.1
    · exact (State.cueReadyOrEnd_cue (s := s.setCue _) (h.kept howner)).1

theorem State.edits_cueCompleted (s : State) (g : GroupId) : s.Edits (s.cueCompleted g) := by
  unfold State.cueCompleted
  split_ifs with hrunning
  · exact ⟨State.path_cueChain _ s, fun h => State.cueChain_cue _ h (h.owned (hrunning.1.trans_ne nofun)),
      (State.cueChain_moves _ s).runs.pending⟩
  · exact .rfl s

/-- R147 in READY or STALLED. -/
theorem State.edits_fire {s : State} (hoff : s.cue.state ≠ .off) (hrunning : s.cue.state ≠ .running) :
    s.Edits s.fire.1 := by
  have hpath := s.path_fireEntry
  have hpending := s.fireEntry_moves.runs.pending
  have hcue : s.cue.Sound → s.fireEntry.1.cue.Sound ∧ s.fireEntry.1.cue.owner ≠ none := fun h =>
    have hkept : s.cue.Kept :=
      ⟨h.pointer, h.count, h.owned hoff, by_contra fun hfired => hrunning (h.fired.mp hfired)⟩
    have hfire := State.fireEntry_cue hkept (.inr h)
    ⟨hfire.1, hfire.2.trans_ne hkept.owner⟩
  unfold State.fire
  split <;> rename_i s1 heq <;> rw [heq] at hpath hpending hcue
  · exact ⟨hpath.trans (State.path_cueChain _ s1), fun h => State.cueChain_cue _ (hcue h).1 (hcue h).2,
      (State.cueChain_moves _ s1).runs.pending.trans hpending⟩
  · exact ⟨hpath, fun h => (hcue h).1, hpending⟩
  · exact ⟨hpath, fun h => (hcue h).1, hpending⟩

/-! ## Position reports, shares and motion checks -/

theorem State.edits_complete (s : State) (g : GroupId) : s.Edits (s.complete g) := by
  have hset := (State.edits_setGroup (s := s) (g := g) .rested).trans
    (State.edits_notifyHolder _ g .groupDone (.group g))
  simp only [State.complete]
  split_ifs
  · exact hset.trans (State.edits_cueCompleted _ g)
  · exact hset
  · exact .rfl s

theorem clamp_bounds {lo hi : Int} (h : lo ≤ hi) (x : Int) : lo ≤ clamp lo hi x ∧ clamp lo hi x ≤ hi := by
  simp only [clamp]
  omega

theorem measuredCoast_le (final release : Int) (d : Dir) : measuredCoast final release d ≤ 250 := by
  have := clamp_bounds (lo := 0) (hi := 250) (by omega) ((final - release) * d.sign)
  unfold measuredCoast
  omega

theorem State.edits_learn (s : State) (d : Dir) (m : Member) : s.Edits (s.learn d m) := by
  unfold State.learn
  split
  next final release _ _ _ =>
    refine State.edits_setPoint ⟨rfl, rfl, rfl, rfl, id, fun hr => ⟨?_, hr.softLimits, hr.trim⟩, fun _ => ⟨rfl, rfl⟩⟩
    have hlead := hr.stopLead
    have hcoast := measuredCoast_le final release d
    change learnedLead _ _ ≤ 250
    unfold learnedLead
    omega
  next => exact .rfl s

theorem State.edits_memberDone (s : State) (g : GroupId) (m : Member) : s.Edits (s.memberDone g m) := by
  have hset := (State.edits_setGroup (s := s) (g := g) (.updMember_same m.point
    (f := fun x => { x with state := .done }) fun _ => ⟨rfl, rfl, rfl⟩)).trans (State.edits_learn _ (s.group g).dir m)
  simp only [State.memberDone]
  split_ifs
  · exact (hset.trans (State.edits_notifyHolder _ g _ _)).trans (State.edits_complete _ g)
  · exact hset.trans (State.edits_complete _ g)

theorem GroupRec.member_mem {r : GroupRec} {p : PointId} {m : Member} (h : r.member p = some m) :
    m ∈ r.members ∧ m.point = p :=
  ⟨List.mem_of_find?_eq_some h, by simpa using List.find?_some h⟩

theorem State.edits_checkArrival {s : State} {g : GroupId} {m : Member} (hm : m ∈ (s.group g).members) :
    s.Edits (s.checkArrival g m) := by
  have hset : s.Edits (s.setGroup g
      ((s.group g).updMember m.point fun _ => s.releaseMember (s.group g).dir m)) :=
    State.edits_setGroup (.updMember m.point _ fun _ _ _ => ⟨rfl, m, hm, rfl, rfl, id⟩)
  simp only [State.checkArrival]
  split_ifs
  · exact hset.trans (State.edits_memberDone _ g _)
  · exact hset
  · exact .rfl s

theorem State.edits_checkJogLimit (s : State) (g : GroupId) (m : Member) : s.Edits (s.checkJogLimit g m) := by
  unfold State.checkJogLimit
  split_ifs
  · exact (s.edits_stopGroup g _).trans (State.edits_notifyHolder _ g _ _)
  · exact .rfl s

theorem State.edits_checkReporter (s : State) (g : GroupId) (p : PointId) : s.Edits (s.checkReporter g p) := by
  unfold State.checkReporter
  split
  next m hm =>
    split_ifs
    · split
      · exact State.edits_checkArrival (GroupRec.member_mem hm).1
      · exact s.edits_checkJogLimit g m
    · exact .rfl s
  next => exact .rfl s

/-- R98 leaves a member's point, target and share-settle count. -/
theorem State.pauseOrResume_same (s : State) (g : GroupId) (m : Member) : (s.pauseOrResume g m).point = m.point ∧
    (s.pauseOrResume g m).target = m.target ∧ (s.pauseOrResume g m).settle = m.settle := by
  unfold State.pauseOrResume
  split
  · split_ifs <;> exact ⟨rfl, rfl, rfl⟩
  · split_ifs <;> exact ⟨rfl, rfl, rfl⟩
  · exact ⟨rfl, rfl, rfl⟩

theorem State.edits_levelMembers (s : State) (g : GroupId) : s.Edits (s.levelMembers g) :=
  State.edits_setGroup (.of_map (s.pauseOrResume g) rfl (s.pauseOrResume_same g) id id rfl rfl rfl rfl)

theorem State.edits_positionReport (s : State) (p : PointId) : s.Edits (s.positionReport p) := by
  unfold State.positionReport
  split
  next => exact .rfl s
  next g _ =>
    split_ifs
    · split
      · exact s.edits_faultGroup g _ _
      · exact (s.edits_levelMembers g).trans (State.edits_checkReporter _ g p)
    · exact .rfl s

theorem State.edits_shareArrival (s : State) (p : PointId) : s.Edits (s.shareArrival p) := by
  unfold State.shareArrival
  split
  next => exact .rfl s
  next g _ =>
    split
    next => exact .rfl s
    next m _ =>
      have hset : s.Edits (s.setGroup g
          ((s.group g).updMember p fun x => { x with settle := min (m.settle + 1) 4 })) :=
        State.edits_setGroup (.updMember p _ fun x hx hp => ⟨hp, x, hx, hp, rfl, fun _ => Nat.min_le_right _ 4⟩)
      simp only
      split_ifs
      · exact hset.trans (State.edits_faultGroup _ g _ _)
      · exact hset
      · exact .rfl s

/-- A member's run timer is set or stopped. -/
theorem State.edits_setRunTimer (s : State) (g : GroupId) (p : PointId) (t : Option Nat) :
    s.Edits (s.setGroup g ((s.group g).updMember p fun x => { x with runTimer := t })) :=
  State.edits_setGroup (.updMember_same p fun _ => ⟨rfl, rfl, rfl⟩)

theorem State.edits_runTimerExpiry (s : State) (p : PointId) : s.Edits (s.runTimerExpiry p) := by
  unfold State.runTimerExpiry
  split
  next => exact .rfl s
  next g _ =>
    split
    next => exact .rfl s
    next =>
      split_ifs
      · exact s.edits_setRunTimer g p none
      · exact (s.edits_setRunTimer g p none).trans (State.edits_faultGroup _ g _ _)
      · exact .rfl s

theorem State.edits_senseChange (s : State) (p : PointId) (v : Sense) : s.Edits (s.senseChange p v) := by
  unfold State.senseChange
  split
  next => exact .rfl s
  next g _ =>
    split
    next => exact .rfl s
    next m _ =>
      split
      · split_ifs
        · exact s.edits_setRunTimer g p _
        · exact .rfl s
        · exact s.edits_faultGroup g _ _
      · split_ifs
        · exact s.edits_memberDone g m
        · exact .rfl s
      · split_ifs
        · exact s.edits_endStopping g
        · exact .rfl s
      · exact .rfl s

end Sys2Proof.Machine
end

section
/-!
Operations of the Load Unit, the Service Engine, the Point Directory, the Hoist Bus Controller and the line events as
edits.
-/
namespace Sys2Proof.Machine

/-! ## Loads -/

/-- Table 3-3 leaves an exit_seen mark only on an ACTIVE condition in LATCH. -/
theorem Condition.evaluate_exit {c : Condition} {enter leave : Bool} {mode : AlarmMode}
    (h : c.exitSeen = true → c.active = true ∧ mode = .latch) :
    (c.evaluate enter leave mode).1.exitSeen = true →
      (c.evaluate enter leave mode).1.active = true ∧ mode = .latch := by
  cases hactive : c.active <;> cases enter <;> cases leave <;> cases mode <;>
    simp_all [Condition.evaluate]

theorem State.edits_evaluateOverload (s : State) (p : PointId) : s.Edits (s.evaluateOverload p) := by
  have hset : s.Edits (s.setLoad p { (s.point p).load with
      overload := ((s.point p).load.overload.evaluate (s.point p).load.aboveHigh (s.point p).load.atHighExit
        (s.point p).load.alarm).1 }) :=
    State.edits_setLoad fun h => { h with overExit := Condition.evaluate_exit h.overExit }
  simp only [State.evaluateOverload]
  split
  · exact hset
  · exact hset.trans (State.edits_notifyAll _ _ _)
  · exact (hset.trans (State.edits_notifyAll _ _ _)).trans (State.edits_faultPoint _ p _)

theorem State.edits_underloadFault (s : State) (p : PointId) : s.Edits (s.underloadFault p) := by
  unfold State.underloadFault
  split
  · split_ifs
    · exact s.edits_faultGroup _ _ _
    · exact .rfl s
  · exact .rfl s

theorem State.edits_evaluateUnderload (s : State) (p : PointId) : s.Edits (s.evaluateUnderload p) := by
  have hset : s.Edits (s.setLoad p { (s.point p).load with
      underload := ((s.point p).load.underload.evaluate (s.point p).load.belowLow (s.point p).load.atLowExit
        (s.point p).load.alarm).1 }) :=
    State.edits_setLoad fun h => { h with underExit := Condition.evaluate_exit h.underExit }
  simp only [State.evaluateUnderload]
  split
  · exact hset
  · exact hset.trans (State.edits_notifyAll _ _ _)
  · exact (hset.trans (State.edits_notifyAll _ _ _)).trans (State.edits_underloadFault _ p)

theorem State.edits_evaluateLoads (s : State) (p : PointId) : s.Edits (s.evaluateLoads p) := by
  unfold State.evaluateLoads
  split_ifs
  · exact .rfl s
  · exact (s.edits_evaluateOverload p).trans (State.edits_evaluateUnderload _ p)

/-- R65, with the load part given: duty_hot is set and a change is noted. -/
theorem State.edits_evaluateDuty (s : State) (p : PointId) : s.Edits (s.evaluateDuty p) := by
  have hset : s.Edits (s.setLoad p { (s.point p).load with dutyHot := (s.point p).load.hotAfter }) :=
    State.edits_setLoad fun h => { h with }
  simp only [State.evaluateDuty]
  split_ifs
  · exact hset
  · exact hset.trans (State.edits_notifyAll _ _ _)
  · exact hset.trans (State.edits_notifyAll _ _ _)

theorem dutyAfter_le {credit : Nat} (h : credit ≤ 65535) (c : Command) : dutyAfter credit c ≤ 65535 := by
  cases c <;> simp only [dutyAfter] <;> omega

theorem LoadPart.computed_needs (l : LoadPart) (h : l.computed ≠ .absent) : l.window.length = 8 ∧ l.cal ≠ none := by
  unfold LoadPart.computed at h
  split_ifs at h with hfull
  · refine ⟨hfull, fun hnone => h ?_⟩
    rw [hnone]
  · exact absurd rfl h

/-- R50: a code that arrives keeps the window within 8 codes, and the value follows the window and the calibration. -/
theorem LoadPart.Sound.take {l : LoadPart} (h : l.Sound) (r : Code) : (l.take r).Sound := by
  have hwindow := h.window
  unfold LoadPart.take
  dsimp only
  split_ifs with _ hroom
  · exact { h with value := LoadPart.computed_needs _ }
  · refine { h with window := ?_, value := LoadPart.computed_needs _ }
    rw [List.length_append]
    exact hroom
  · refine { h with window := ?_, value := LoadPart.computed_needs _ }
    rw [List.length_append, List.length_tail, List.length_singleton]
    omega

theorem State.edits_loadArrival (s : State) (n : SlotId) (p : PointId) (r : Code) : s.Edits (s.loadArrival n p r) := by
  have hduty : s.Edits (s.setLoad p { (s.point p).load with
      duty := dutyAfter (s.point p).load.duty (s.effective n) }) :=
    State.edits_setLoad fun h => { h with duty := dutyAfter_le h.duty _ }
  exact (((hduty.trans (State.edits_evaluateDuty _ p)).trans (State.edits_setLoad fun h => h.take r)).trans
    (State.edits_evaluateLoads _ p)).trans (State.edits_shareArrival _ p)

/-! ## Starting jobs -/

theorem State.edits_startPortJob {l : List PortEntry} {s : State} (hl : l.Sublist s.service.portQueue) :
    s.Edits (s.startPortJob l) := by
  induction l generalizing s with
  | nil => exact (State.Edit.queue s [] (List.nil_sublist _)).edits
  | cons e rest ih =>
    have hrest := (List.sublist_cons_self e rest).trans hl
    unfold State.startPortJob
    split_ifs
    · exact (State.Edit.portStarts s e rest (hl.subset List.mem_cons_self) hrest).edits
    · exact (s.edits_notify e.port _ _).trans (ih (s := s.notify e.port .serviceFailed (.point e.point)) hrest)

theorem State.edits_startJob (s : State) : s.Edits s.startJob := by
  unfold State.startJob
  split
  · exact .rfl s
  next e rest _ hlist => exact (State.Edit.joinStarts s e rest hlist).edits
  · exact State.edits_startPortJob (.refl _)

/-! ## Ending jobs -/

theorem State.edits_setActive {s : State} {j j' : Job} (h : s.service.active = some j) (hkind : j'.kind = j.kind)
    (hslot : j'.slot = j.slot) (hwrite : j'.write = j.write) : s.Edits (s.setActive (some j')) :=
  (State.Edit.job s j j' h hkind hslot hwrite).edits

theorem State.edits_jobEnds (s : State) : s.Edits (s.setActive none) := (State.Edit.jobEnds s).edits

theorem State.edits_oweIdle (s : State) (n : SlotId) : s.Edits (s.oweIdle n) :=
  State.edits_setSlot ⟨rfl, rfl, rfl, id, fun _ => id⟩

/-- A port job that fails only raises its notice. -/
theorem State.edits_portJobDone_fails (s : State) (j : Job) (q : Port) {o : ServiceOutcome} (ho : o.isOk = false) :
    s.Edits (s.portJobDone j q o) := by
  unfold State.portJobDone
  split
  · exact .rfl s
  · cases ho
  · exact s.edits_notify q _ _

/-- A port job that succeeds installs its calibration while it is active, and then ends. -/
theorem State.edits_portJobDone_ok {s : State} {j : Job} (h : s.service.active = some j) (q : Port) (data : List Byte) :
    s.Edits ((s.setActive none).portJobDone j q (.ok data)) := by
  unfold State.portJobDone
  split
  next => exact s.edits_jobEnds
  next p _ hp heq =>
    cases heq
    split_ifs
    · have hload : s.Edits (s.setLoad p (match j.kind, j.write with
          | .calWrite, some c => (s.point p).load.install c
          | .calRead, _ => (s.point p).load.installRead (calOf data)
          | _, _ => (s.point p).load)) := by
        split
        next c _ hwrite => exact (State.Edit.installs s j p c h hwrite).edits
        next => exact State.edits_setLoad fun hl => hl.installRead _
        next => exact State.edits_setLoad id
      exact (hload.trans (State.edits_jobEnds _)).trans (State.edits_notify _ q _ _)
    · exact s.edits_jobEnds.trans (State.edits_notify _ q _ _)
  next hne => exact absurd rfl (hne data)

theorem State.edits_calReadDone (s : State) (j : Job) (o : ServiceOutcome) : s.Edits (s.calReadDone j o) := by
  unfold State.calReadDone
  split
  · exact .rfl s
  · split_ifs
    · exact (State.edits_setLoad fun h => h.installRead _).trans (State.edits_notifyAll _ _ _)
    · exact s.edits_notifyAll _ _
  · exact s.edits_notifyAll _ _

theorem State.patchedPoint_identity {s : State} {x : Identity} {p : PointId} (h : s.patchedPoint x = some p) :
    (s.point p).identity = some x := by simpa using List.find?_some h

/-- R10 for a JOINING slot: the identity's slot becomes FOREIGN, with a notice. -/
def State.foreignWith (s : State) (n : SlotId) (x : Identity) (k : NoticeKind) : State :=
  (s.setSlot n { s.slot n with identity := some x }.madeForeign).notifyAll k (.slot n)

/-- Table 1-5 for a JOINING slot. -/
theorem State.identDone_of_joining {s : State} {j : Job} (h : (s.slot j.slot).state = .joining) (x : Identity) :
    s.identDone j x =
      if x = 0x00000000 ∨ x = 0xFFFFFFFF then s.foreignWith j.slot x .nodeForeign
      else match s.patchedPoint x with
        | some p =>
          if (s.point p).boundSlot.isNone then
            ((s.setSlot j.slot { s.slot j.slot with identity := some x }).bind p j.slot).setActive
              (some (newJob j.slot .calRead j.origin (some p) none))
          else s.foreignWith j.slot x .nodeDuplicate
        | none => s.foreignWith j.slot x .nodeForeign := by
  simp only [State.identDone, State.setSlot_slot, if_true, State.setSlot_setSlot, State.foreignWith]
  exact if_neg (not_not.mpr h)

theorem State.identDone_of_not_joining {s : State} {j : Job} (h : (s.slot j.slot).state ≠ .joining) (x : Identity) :
    s.identDone j x = s := if_pos h

/-- R10: an IDENT that succeeds binds a point, leaves its slot FOREIGN, or finds it no longer JOINING. -/
theorem State.edits_identDone {s : State} {j : Job} (h : s.service.active = some j) (hkind : j.kind = .ident) (x : Identity) :
    s.Edits ((s.setActive none).identDone j x) := by
  by_cases hjoining : (s.slot j.slot).state = .joining
  · have hforeign : ∀ k, s.Edits ((s.setActive none).foreignWith j.slot x k) := fun k =>
      (State.Edit.identForeign s j x h hkind hjoining).edits.trans (State.edits_notifyAll _ _ _)
    rw [State.identDone_of_joining (s := s.setActive none) hjoining]
    split_ifs
    · exact hforeign _
    · split
      next p hp =>
        split_ifs with hunbound
        · exact (State.Edit.identLinks s j x p h hkind hjoining (State.patchedPoint_identity (s := s) hp)
            (Option.isNone_iff_eq_none.mp hunbound)).edits.trans (State.edits_notifyAll _ .nodeJoined (.point p))
        · exact hforeign _
      next => exact hforeign _
  · rw [State.identDone_of_not_joining (s := s.setActive none) hjoining]
    exact s.edits_jobEnds

theorem ServiceOutcome.isOk_iff (o : ServiceOutcome) : o.isOk = true ↔ ∃ data, o = .ok data := by
  cases o <;> simp [ServiceOutcome.isOk]

/-- R11: an IDENT that fails leaves its slot EMPTY, if it was still JOINING. -/
theorem State.edits_identFails {s : State} {j : Job} (h : s.service.active = some j) (hkind : j.kind = .ident) :
    s.Edits (((s.setActive none).oweIdle j.slot).identFailed j.slot) := by
  have howed := s.edits_oweIdle j.slot
  unfold State.identFailed
  split_ifs with hjoining
  · exact howed.trans (State.Edit.identFails (s.oweIdle j.slot) j h hkind hjoining).edits
  · exact howed.trans (State.edits_jobEnds _)

/-- R39: however the exchange of the active job ends. -/
theorem State.edits_finishJob (s : State) (e : JobEnd) : s.Edits (s.finishJob e) := by
  unfold State.finishJob
  split
  next => exact .rfl s
  next j hj =>
    have hended : s.Edits (if (j.kind.outcome e).isOk then s.setActive none else (s.setActive none).oweIdle j.slot) := by
      split_ifs
      · exact s.edits_jobEnds
      · exact s.edits_jobEnds.trans (State.edits_oweIdle _ _)
    dsimp only
    split
    next q _ =>
      cases hok : (j.kind.outcome e).isOk with
      | true =>
        obtain ⟨data, hdata⟩ := (ServiceOutcome.isOk_iff _).mp hok
        rw [if_pos rfl, hdata]
        exact State.edits_portJobDone_ok hj q data
      | false =>
        rw [hok] at hended
        exact hended.trans (State.edits_portJobDone_fails _ j q hok)
    next data hkind hok _ =>
      simp only [hok, ServiceOutcome.isOk, if_true]
      exact State.edits_identDone hj hkind _
    next hkind _ hfails =>
      rw [if_neg fun hok => ((ServiceOutcome.isOk_iff _).mp hok).elim hfails]
      exact State.edits_identFails hj hkind
    next => exact hended.trans (State.edits_calReadDone _ j _)

theorem State.edits_endJob (s : State) (e : JobEnd) : s.Edits (s.endJob e) :=
  (s.edits_finishJob e).trans (State.edits_startJob _)

theorem State.edits_loseJob (s : State) (n : SlotId) : s.Edits (s.loseJob n) := by
  unfold State.loseJob
  split
  · split_ifs
    · exact s.edits_finishJob _
    · exact .rfl s
  · exact .rfl s

/-! ## Joining and loss -/

theorem State.edits_slotJoins {s : State} {n : SlotId} (h : (s.slot n).state = .empty) : s.Edits (s.slotJoins n) :=
  (State.Edit.joins s n h).edits.trans (State.edits_startJob _)

/-- A job of a slot that is no longer JOINING fails with LOST as if it had ended before. -/
theorem State.edits_finishJob_lost {s : State} {j : Job} (h : s.service.active = some j)
    (hstate : (s.slot j.slot).state ≠ .joining) : (s.setActive none).Edits (s.finishJob .lost) := by
  have howed := State.edits_oweIdle (s.setActive none) j.slot
  have hout : j.kind.outcome .lost = .lost := by cases j.kind <;> rfl
  have hslot : (((s.setActive none).oweIdle j.slot).slot j.slot).state ≠ .joining := by
    rw [State.oweIdle_slot, if_pos rfl]
    exact hstate
  unfold State.finishJob
  split
  next hnone => cases hnone.symm.trans h
  next k hk =>
    cases hk.symm.trans h
    dsimp only
    simp only [hout, ServiceOutcome.isOk, Bool.false_eq_true, if_false]
    split
    next q _ => exact howed.trans (State.edits_portJobDone_fails _ j q rfl)
    next hnot _ => cases hnot
    next => rwa [State.identFailed, if_neg hslot]
    next => exact howed.trans (State.edits_calReadDone _ j _)

/-- A slot with no point is lost, and a job of its own with it. -/
theorem State.edits_vanishes {s : State} {n : SlotId} (hstate : (s.slot n).state ≠ .empty)
    (hbare : (s.slot n).state ≠ .bound ∨ (s.slot n).point = none) :
    s.Edits (((s.setSlot n (s.slot n).emptied).dropJoin n).loseJob n) := by
  unfold State.loseJob
  split
  next j hj =>
    split_ifs with hslot
    · refine (State.Edit.vanishes s n none hstate hbare (.inl rfl)).edits.trans (State.edits_finishJob_lost hj ?_)
      rw [hslot]
      exact ((congrArg SlotRec.state ((State.setSlot_slot ..).trans (if_pos rfl))).trans_ne nofun)
    · refine (State.Edit.vanishes s n s.service.active hstate hbare (.inr ⟨rfl, fun k hk => ?_⟩)).edits
      cases hk.symm.trans hj
      exact hslot
  next hnone =>
    exact (State.Edit.vanishes s n s.service.active hstate hbare (.inr ⟨rfl, fun k hk => nomatch hk.symm.trans hnone⟩)).edits

theorem State.edits_slotIsLost (s : State) (n : SlotId) : s.Edits (s.slotIsLost n) := by
  unfold State.slotIsLost
  dsimp only
  split
  next => exact .rfl s
  next hstate =>
    exact (State.edits_vanishes (hstate.trans_ne nofun) (.inl (hstate.trans_ne nofun))).trans (State.edits_startJob _)
  next hstate =>
    exact ((State.edits_vanishes (hstate.trans_ne nofun) (.inl (hstate.trans_ne nofun))).trans
      (State.edits_notifyAll _ _ _)).trans (State.edits_startJob _)
  next p hstate hpoint =>
    exact (((((State.Edit.unlinks s p n _ (.inl hpoint) (.inl rfl)).edits.trans (State.edits_faultPoint _ p _)).trans
      (State.edits_loseJob _ n)).trans (State.edits_notifyAll _ _ _)).trans (State.edits_startJob _))
  next hstate hpoint =>
    exact (State.edits_vanishes (hstate.trans_ne nofun) (.inr hpoint)).trans (State.edits_startJob _)

/-! ## The message exchange -/

theorem State.edits_serviceOverdue (s : State) : s.Edits s.serviceOverdue := by
  unfold State.serviceOverdue
  split
  · split_ifs
    · exact s.edits_endJob _
    · exact .rfl s
  · exact .rfl s

theorem State.edits_serviceSent (s : State) (waits : Bool) : s.Edits (s.serviceSent waits) := by
  unfold State.serviceSent
  split
  next => exact .rfl s
  next j hj =>
    split
    · split_ifs
      · exact .rfl s
      · exact State.edits_setActive hj rfl rfl rfl
    · exact State.edits_setActive hj rfl rfl rfl
    · exact State.edits_setActive hj rfl rfl rfl
    · exact State.edits_setActive hj rfl rfl rfl
    · exact State.edits_setActive hj rfl rfl rfl
    · exact State.edits_setActive hj rfl rfl rfl
    · exact s.edits_endJob _

theorem State.edits_serviceTaken (s : State) (n : SlotId) (o : Byte) (m : Mark) : s.Edits (s.serviceTaken n o m) := by
  unfold State.serviceTaken
  split
  next => exact .rfl s
  next j hj =>
    dsimp only
    by_cases hslot : j.slot ≠ n
    · rw [if_pos hslot]
    · rw [if_neg hslot]
      split
      · split_ifs
        · exact .rfl s
        · exact s.edits_endJob _
        · exact State.edits_setActive hj rfl rfl rfl
        · exact State.edits_setActive hj rfl rfl rfl
        · exact State.edits_setActive hj rfl rfl rfl
      · split_ifs
        · exact s.edits_endJob _
        · exact State.edits_setActive hj rfl rfl rfl
      · split_ifs
        · exact State.edits_setActive hj rfl rfl rfl
        · exact State.edits_setActive hj rfl rfl rfl
        · exact s.edits_endJob _
        · exact State.edits_setActive hj rfl rfl rfl
      · exact State.edits_setActive hj rfl rfl rfl

theorem State.edits_serviceBroken (s : State) (n : SlotId) : s.Edits (s.serviceBroken n) := by
  unfold State.serviceBroken
  split
  next j hj =>
    split_ifs
    · exact State.edits_setActive hj rfl rfl rfl
    · exact .rfl s
  next => exact .rfl s

theorem State.serviceBroken_slot (s : State) (n x : SlotId) : (s.serviceBroken n).slot x = s.slot x := by
  unfold State.serviceBroken
  split
  · split_ifs <;> rfl
  · rfl

theorem State.edits_dropPortEntries (s : State) (q : Port) : s.Edits (s.dropPortEntries q) :=
  (State.Edit.queue s _ List.filter_sublist).edits

theorem State.edits_queueEntry {s : State} {e : PortEntry} (hroom : s.queueFull e.port = false)
    (hwrite : (s.point e.point).load.Sound → ∀ c, e.write = some c → c.inRange = true) : s.Edits (s.queueEntry e) :=
  (State.Edit.enqueue s e hroom hwrite).edits.trans (State.edits_startJob _)

/-! ## Frames -/

theorem Bus.nextPos_lt (b : Bus) : b.nextPos < b.epoch.frames := by
  have hpos : 0 < b.epoch.frames := by cases b.epoch <;> simp [Epoch.frames]
  unfold Bus.nextPos
  split_ifs with _ hnext
  · exact hpos
  · exact hnext
  · exact hpos

theorem State.edits_advance (s : State) : s.Edits s.advance :=
  (State.Edit.bus s { s.bus with framePos := s.bus.nextPos, restart := false } fun _ => s.bus.nextPos_lt).edits.trans
    (State.edits_free _ _ (s.now + Config.framePeriod) _ _)

/-- R32 changes a point's last-run mark at most. -/
theorem State.markRun_edit (s : State) (p : PointId) (r : PointRec) (active : Bool) : r.EditTo active (s.markRun p r) := by
  unfold State.markRun
  split
  · split_ifs
    · exact ⟨rfl, rfl, rfl, rfl, id, fun hr => ⟨hr.stopLead, hr.softLimits, hr.trim⟩, fun _ => ⟨rfl, rfl⟩⟩
    · exact .refl _ _
  · exact .refl _ _

theorem State.edits_oweLess (s : State) :
    s.Edits { s with slots := s.slots.map fun r => { r with idleOwed := r.idleOwed - 1 } } :=
  (State.Edit.slots s _ fun n => by
    rw [Fin.getElem_fin, Vector.getElem_map]
    exact ⟨rfl, rfl, rfl, id, fun _ => id⟩).edits

theorem State.edits_setPoints (s : State) (points : Vector PointRec 48)
    (h : ∀ (p : PointId) (active : Bool), (s.points[p]).EditTo active points[p]) :
    s.Edits { s with points := points } :=
  (State.Edit.points s points fun p => h p _).edits

theorem State.edits_setDownstream (s : State) (fields : Vector DownField 48) :
    s.Edits { s with bus := { s.bus with downstream := fields } } :=
  (State.Edit.bus s { s.bus with downstream := fields } id).edits

theorem State.markRuns_edit (s : State) (p : PointId) (active : Bool) :
    (s.points[p]).EditTo active (Vector.ofFn fun p => s.markRun p (s.point p))[p] := by
  rw [Fin.getElem_fin (Vector.ofFn _), Vector.getElem_ofFn]
  exact s.markRun_edit p s.points[p] active

theorem State.edits_sendFields (s : State) : s.Edits s.sendFields :=
  (s.edits_oweLess.trans (State.edits_setPoints _ (Vector.ofFn fun p => s.markRun p (s.point p)) s.markRuns_edit)).trans
    (State.edits_setDownstream _ _)

theorem State.edits_newFrame (s : State) : s.Edits s.newFrame :=
  ((s.edits_serviceOverdue.trans (State.edits_advance _)).trans (State.edits_sendFields _)).trans
    (State.edits_serviceSent _ _)

/-! ## Indication changes -/

theorem State.edits_stopInputFault (s : State) (p : PointId) (k : StopKind) : s.Edits (s.stopInputFault p k) := by
  unfold State.stopInputFault
  split
  · split_ifs
    · exact s.edits_faultPoint p _
    · exact .rfl s
  · exact .rfl s

theorem State.edits_stopFlag (s : State) (p : PointId) (before now : PerKind Bool) (k : StopKind) :
    s.Edits (s.stopFlag p before now k) := by
  simp only [State.stopFlag]
  split_ifs
  · exact ((s.edits_setStop p _).trans (State.edits_notifyAll _ _ _)).trans (State.edits_stopInputFault _ p k)
  · exact s.edits_setStop p _

theorem State.edits_examineRunaway (s : State) (p : PointId) (v : Sense) : s.Edits (s.examineRunaway p v) := by
  unfold State.examineRunaway
  split_ifs
  · exact s.edits_runaway p
  · exact .rfl s

theorem State.edits_stopUnitChange (s : State) (p : PointId) (before : Option Indication) (v : Indication) :
    s.Edits (s.stopUnitChange p before v) :=
  (State.edits_foldl (fun t k => t.edits_stopFlag p _ _ k) allKinds s).trans (State.edits_examineRunaway _ p _)

theorem State.edits_motionChange (s : State) (p : PointId) (before : Option Indication) (v : Indication) :
    s.Edits (s.motionChange p before v) := by
  unfold State.motionChange
  split_ifs
  · exact .rfl s
  · exact s.edits_senseChange p _

/-- R28 for a BOUND slot, which alone may hold an indication. -/
theorem State.edits_indicationChange {s : State} {n : SlotId} (hbound : (s.slot n).state = .bound) (p : PointId)
    (v : Indication) : s.Edits (s.indicationChange n p v) := by
  have hslot : s.Edits (s.setSlot n { s.slot n with accepted := some v }) :=
    State.edits_setSlot ⟨rfl, rfl, rfl, id, fun hne => absurd hbound hne⟩
  have hset : s.Edits { s.setSlot n { s.slot n with accepted := some v } with choice := s.choice + 1 } :=
    hslot.trans (State.edits_free _ s.inReset s.now (s.choice + 1) s.warn)
  simp only [State.indicationChange]
  split_ifs
  · exact (hset.trans (State.edits_stopUnitChange _ p _ v)).trans (State.edits_motionChange _ p _ v)
  · exact (hset.trans (State.edits_motionChange _ p _ v)).trans (State.edits_stopUnitChange _ p _ v)

/-! ## Upstream fields -/

theorem State.edits_countValid (s : State) (n : SlotId) : s.Edits (s.countValid n) := by
  unfold State.countValid
  dsimp only
  split_ifs with hempty hpresent
  · exact State.edits_slotJoins hempty
  · refine State.edits_setSlot ⟨rfl, rfl, rfl, fun h => ⟨fun _ => ⟨?_, (h.1 hempty).2⟩, fun hne => absurd hempty hne⟩,
      fun _ => id⟩
    exact Nat.le_of_lt_succ (Nat.lt_of_not_le hpresent)
  · exact State.edits_setSlot ⟨rfl, rfl, rfl, fun h => ⟨fun he => absurd he hempty,
      fun hne => ⟨(h.2 hne).1, Nat.zero_le 7⟩⟩, fun _ => id⟩

theorem State.edits_takePosition (s : State) (n : SlotId) (x : Word16) : s.Edits (s.takePosition n x) := by
  unfold State.takePosition
  split
  next p _ hpoint => exact (State.Edit.position s n p x hpoint).edits.trans (State.edits_positionReport _ p)
  next => exact .rfl s

theorem State.edits_takeIndication (s : State) (n : SlotId) (i : Option Indication) : s.Edits (s.takeIndication n i) := by
  unfold State.takeIndication
  split
  next p hbound hpoint =>
    have hset : s.Edits (s.setSlot n { s.slot n with candidate := i }) :=
      State.edits_setSlot ⟨rfl, rfl, rfl, id, fun hne => absurd hbound hne⟩
    dsimp only
    split
    · split_ifs
      · refine hset.trans (State.edits_indicationChange ?_ p _)
        rw [State.setSlot_slot, if_pos rfl]
        exact hbound
      · exact hset
    · exact hset
  next => exact .rfl s

theorem State.edits_takeSample (s : State) (n : SlotId) (q : BitVec 4) (r : Code) : s.Edits (s.takeSample n q r) := by
  have hset : s.Edits (s.setSlot n { s.slot n with lastSeq := some q }) :=
    State.edits_setSlot ⟨rfl, rfl, rfl, id, fun _ => id⟩
  unfold State.takeSample
  dsimp only
  split
  · exact hset
  · split_ifs
    · exact .rfl s
    · split
      · exact hset.trans (State.edits_loadArrival _ n _ r)
      · exact hset

theorem State.edits_validField (s : State) (n : SlotId) (u : UpField) : s.Edits (s.validField n u) :=
  ((((s.edits_countValid n).trans (State.edits_takePosition _ n _)).trans (State.edits_takeIndication _ n _)).trans
    (State.edits_takeSample _ n _ _)).trans (State.edits_serviceTaken _ n _ _)

theorem State.edits_invalidField (s : State) (n : SlotId) : s.Edits (s.invalidField n) := by
  have hbroken := s.edits_serviceBroken n
  unfold State.invalidField
  dsimp only
  split_ifs with hempty hlost
  · refine hbroken.trans (State.edits_setSlot ?_)
    rw [State.serviceBroken_slot]
    exact ⟨rfl, rfl, rfl, fun h => ⟨fun he => ⟨Nat.zero_le 3, (h.1 he).2⟩, fun hne => absurd hempty hne⟩, fun _ => id⟩
  · exact hbroken.trans (State.edits_slotIsLost _ n)
  · refine hbroken.trans (State.edits_setSlot ?_)
    rw [State.serviceBroken_slot]
    refine ⟨rfl, rfl, rfl, fun h => ⟨fun he => absurd he hempty, fun hne => ⟨(h.2 hne).1, ?_⟩⟩,
      fun _ h => ⟨rfl, h.2⟩⟩
    exact Nat.le_of_lt_succ (Nat.lt_of_not_le hlost)

theorem State.edits_upstream (s : State) (n : SlotId) (f : Option UpField) : s.Edits (s.upstream n f) := by
  unfold State.upstream
  split
  · split_ifs
    · exact s.edits_validField n _
    · exact s.edits_invalidField n
  · exact s.edits_invalidField n

/-! ## The lines and timers -/

theorem State.edits_allowanceExpiry (s : State) (p : PointId) : s.Edits (s.allowanceExpiry p) := by
  unfold State.allowanceExpiry
  split_ifs
  · exact s.edits_runaway p
  · exact .rfl s

theorem State.setStopUnit_notifyAll (s : State) (u : StopUnit) (k : NoticeKind) (v : Subject) :
    (s.setStopUnit u).notifyAll k v = (s.notifyAll k v).setStopUnit u := rfl

theorem State.setStopUnit_setStopUnit (s : State) (u v : StopUnit) : (s.setStopUnit u).setStopUnit v = s.setStopUnit v := rfl

theorem State.setStopUnit_tripFault (s : State) (u : StopUnit) (c : TripCause) :
    (s.setStopUnit u).tripFault c = s.tripFault c := rfl

theorem State.setStopUnit_stopUnit_self (s : State) (u : StopUnit) : (s.setStopUnit u).stopUnit = u := rfl

/-- R128 of a CLOSED mains: the groups are faulted before the Stop Unit has its new state. -/
theorem State.setStopUnit_tripMains (s : State) {u : StopUnit} (h : u.mains = .closed) (c : TripCause) :
    (s.setStopUnit u).tripMains c =
      ((s.notifyAll .mainsTripped c.subject).faultAll (s.tripFault c)).setStopUnit (u.tripped c) := by
  rw [State.tripMains_of_closed (s := s.setStopUnit u) h, State.setStopUnit_notifyAll,
    (blind_faultAll _).setStopUnit (s.notifyAll .mainsTripped c.subject) u, State.setStopUnit_setStopUnit,
    State.setStopUnit_tripFault, State.setStopUnit_stopUnit_self]

theorem Mains.tripped_of_not_closed {m : Mains} (h : m ≠ .closed) : m = .tripped := by
  cases m with
  | closed => exact absurd rfl h
  | tripped => rfl

theorem State.edits_setStopUnit_tripMains (s : State) {u : StopUnit} (h : u.mains = .closed)
    (hhold : u.hold = s.stopUnit.hold) (c : TripCause) : s.Edits ((s.setStopUnit u).tripMains c) := by
  rw [State.setStopUnit_tripMains s h c]
  refine (s.edits_notifyAll _ _).trans (State.edits_faultAll_tripped _ _ rfl ?_)
  rw [State.notifyAll_stopUnit]
  exact hhold

theorem State.edits_estopFalls (s : State) :
    s.Edits (((s.setStopUnit { s.stopUnit with estop := true }).notifyAll .estop .none).tripMains .estop) := by
  rw [State.setStopUnit_notifyAll]
  refine (s.edits_notifyAll .estop .none).trans ?_
  by_cases hclosed : s.stopUnit.mains = .closed
  · exact State.edits_setStopUnit_tripMains _ (by exact hclosed) (by rw [State.notifyAll_stopUnit]) _
  · have htripped := Mains.tripped_of_not_closed hclosed
    rw [State.tripMains_of_tripped (by exact hclosed)]
    refine State.edits_setStopUnit ?_
    exact ⟨fun _ => .inl htripped, fun _ _ => htripped, fun hh => .inl (by rwa [State.notifyAll_stopUnit])⟩

end Sys2Proof.Machine
end

section
/-!
The Port Interface's operations as edits: what a frame's arrival, an enable, a link loss and the receiver do. Where the
model changes a port before it stops or orphans its groups, the two parts are exchanged first.
-/
namespace Sys2Proof.Machine

/-! ## Single port edits -/

theorem State.edits_setPort {s : State} {q : Port} {r : PortRec} (h : s.PortEdit q r) : s.Edits (s.setPort q r) :=
  (State.Edit.port s q r h).edits

/-- An edit of a port that keeps its link and its enable. -/
theorem State.edits_setPort_linked {s : State} {q : Port} {r : PortRec} (hsound : (s.port q).Sound → r.Sound)
    (hlink : r.link = (s.port q).link) (henable : r.enable = (s.port q).enable) : s.Edits (s.setPort q r) :=
  State.edits_setPort ⟨hsound, fun hup he => hlink.trans (hup (henable ▸ he)),
    .inl fun hup he => ⟨hlink.trans hup, henable.trans he⟩⟩

theorem State.edits_queueTx {s : State} {q : Port} (hlink : (s.port q).link = .up) (hroom : (s.port q).tx.length < 6)
    (f : TxFrame) : s.Edits (s.queueTx q f) :=
  State.edits_setPort_linked
    (fun h => { h with
      queue := by
        rw [List.length_append]
        exact hroom
      downIdle := fun hdown => absurd hdown (hlink.trans_ne nofun) }) rfl rfl

theorem State.edits_clearPrompt (s : State) (q : Port) :
    s.Edits (s.setNotice q { s.notice q with prompt := false }) :=
  (State.Edit.notice s q { s.notice q with prompt := false } fun h =>
    ⟨h.size, h.distinct, h.counts, h.suppress⟩).edits

theorem State.edits_flushPrompt (s : State) (q : Port) : s.Edits (s.flushPrompt q) := by
  rw [State.flushPrompt_eq]
  split_ifs with _ hroom
  · exact (s.edits_clearPrompt q).trans (State.edits_queueTx (s := s.setNotice q _) hroom.1 hroom.2 _)
  · exact s.edits_clearPrompt q
  · exact .rfl s

theorem State.edits_flushPrompts (s : State) : s.Edits s.flushPrompts :=
  ((s.edits_flushPrompt .a).trans (State.edits_flushPrompt _ .b)).trans (State.edits_flushPrompt _ .c)

theorem State.edits_event {s : State} {f : State → State} (h : s.Edits (f s)) : s.Edits (s.event f) := by
  unfold State.event
  split_ifs
  · exact .rfl s
  · exact h.trans (State.edits_flushPrompts _)

/-! ## A frame's arrival -/

theorem blind_clearOrphan (q : Port) (g : GroupId) : Blind fun s => s.clearOrphan q g := by
  refine Blind.ite (f := fun t => (t.setGroup g { t.group g with orphaned := false }).notifyAll .claimChanged (.group g))
    ⟨fun _ _ _ _ => rfl, fun _ => rfl⟩ fun _ _ _ _ => .rfl

theorem State.edits_clearOrphan (s : State) (q : Port) (g : GroupId) : s.Edits (s.clearOrphan q g) := by
  unfold State.clearOrphan
  split_ifs
  · exact (State.edits_setGroup (r := { s.group g with orphaned := false })
      (.claim (fun _ => .inl rfl) fun _ h => nomatch h)).trans (State.edits_notifyAll _ _ _)
  · exact .rfl s

/-- R80 for every group. -/
def State.clearOrphans (s : State) (q : Port) : State := allGroups.foldl (fun t g => t.clearOrphan q g) s

theorem blind_clearOrphans (q : Port) : Blind fun s => s.clearOrphans q := .foldl (blind_clearOrphan q) allGroups

/-- A port whose link has come UP, with the frames queued since. -/
def PortRec.returned (r : PortRec) (now : Nat) (frames : List TxFrame) : PortRec :=
  { r with link := .up, linkTimer := some (now + 1000), tx := r.tx ++ frames }

theorem PortRec.Sound.returned {r : PortRec} (h : r.Sound) (now : Nat) {frames : List TxFrame}
    (hroom : (r.tx ++ frames).length ≤ 6) : (r.returned now frames).Sound :=
  { h with
    queue := hroom
    linkTimer := ⟨nofun, nofun⟩
    enableUp := fun _ => rfl
    downIdle := nofun }

theorem State.edits_returned {s : State} {q : Port} {frames : List TxFrame}
    (hroom : (s.port q).tx.length ≤ 6 → ((s.port q).tx ++ frames).length ≤ 6) :
    s.Edits (s.setPort q ((s.port q).returned s.now frames)) :=
  State.edits_setPort ⟨fun h => h.returned _ (hroom h.queue), fun _ _ => rfl, .inl fun _ he => ⟨rfl, he⟩⟩

theorem State.setPort_setNotice_comm (s : State) (q : Port) (r : PortRec) (x : Port) (n : NoticeSet) :
    (s.setPort q r).setNotice x n = (s.setNotice x n).setPort q r := rfl

/-- R157, R156: the effects of a frame on a DOWN link, the port's own record last. -/
theorem State.frameArrives_of_down {s : State} {q : Port} (h : (s.port q).link = .down) : s.frameArrives q =
    if ((s.clearOrphans q).notice q).records = [] then
      (s.clearOrphans q).setPort q ((s.port q).returned s.now [])
    else
      ((s.clearOrphans q).setNotice q { (s.clearOrphans q).notice q with prompt := false }).setPort q
        ((s.port q).returned s.now (if (s.port q).tx.length < 6 then [attention] else [])) := by
  have hreturn : s.linkReturn q = ((s.clearOrphans q).setPort q { s.port q with link := .up }).returnAttention q :=
    congrArg (State.returnAttention · q) ((blind_clearOrphans q).setPort s q { s.port q with link := .up })
  have hnow : (s.clearOrphans q).now = s.now := ((blind_clearOrphans q).2 s).runs.now
  rw [State.frameArrives, if_pos h, hreturn]
  simp only [State.returnAttention, State.queueAttention, State.setPort_notice, State.setNotice_port, State.setPort_port,
    if_true, Config.txDepth, true_and, State.timer, Config.linkTime]
  split_ifs <;> simp [PortRec.returned, State.queueTx, State.setPort_setNotice_comm, hnow]

theorem State.edits_clearOrphans (s : State) (q : Port) : s.Edits (s.clearOrphans q) :=
  State.edits_foldl (fun t g => t.edits_clearOrphan q g) _ s

theorem State.clearOrphans_port (s : State) (q x : Port) : (s.clearOrphans q).port x = s.port x :=
  congrArg (PerPort.get · x) ((blind_clearOrphans q).2 s).runs.ports

/-- The port's own part of a link return, over a state with the same port and time. -/
theorem State.edits_returned_over {s t : State} {q : Port} (hport : t.port q = s.port q) (hnow : t.now = s.now)
    {frames : List TxFrame} (hroom : (s.port q).tx.length ≤ 6 → ((s.port q).tx ++ frames).length ≤ 6) :
    t.Edits (t.setPort q ((s.port q).returned s.now frames)) := by
  rw [← hport, ← hnow]
  exact State.edits_returned (hport ▸ hroom)

theorem State.edits_frameArrives (s : State) (q : Port) : s.Edits (s.frameArrives q) := by
  cases hlink : (s.port q).link with
  | down =>
    have hport := s.clearOrphans_port q q
    have hnow : (s.clearOrphans q).now = s.now := ((blind_clearOrphans q).2 s).runs.now
    rw [State.frameArrives_of_down hlink]
    have hport' := (State.setNotice_port (s.clearOrphans q) q { (s.clearOrphans q).notice q with prompt := false } q).trans
      hport
    have hnow' := (State.setNotice_now (s.clearOrphans q) q { (s.clearOrphans q).notice q with prompt := false }).trans
      hnow
    refine (s.edits_clearOrphans q).trans ?_
    split_ifs with _ hroom
    · exact State.edits_returned_over hport hnow fun h => by rwa [List.append_nil]
    · refine (State.edits_clearPrompt _ q).trans (State.edits_returned_over hport' hnow' fun _ => ?_)
      rw [List.length_append]
      exact hroom
    · exact (State.edits_clearPrompt _ q).trans
        (State.edits_returned_over hport' hnow' fun h => by rwa [List.append_nil])
  | up =>
    rw [State.frameArrives, if_neg (by rw [hlink]; nofun)]
    exact State.edits_setPort_linked (fun h => { h with linkTimer := ⟨fun hdown => absurd hdown (hlink.trans_ne nofun), nofun⟩ })
      rfl rfl

theorem State.frameArrives_link (s : State) (q : Port) : ((s.frameArrives q).port q).link = .up := by
  cases hlink : (s.port q).link with
  | down =>
    rw [State.frameArrives_of_down hlink]
    split_ifs <;> rw [State.setPort_port, if_pos rfl] <;> rfl
  | up =>
    rw [State.frameArrives, if_neg (by rw [hlink]; nofun), State.setPort_port, if_pos rfl]
    exact hlink

/-! ## Requests -/

/-- A request's effect: edits that leave every port's link and queue as they are. -/
structure State.Executes (s t : State) : Prop where
  edits : s.Edits t
  link : ∀ q, (t.port q).link = (s.port q).link
  tx : ∀ q, (t.port q).tx = (s.port q).tx

theorem State.Executes.refl (s : State) : s.Executes s := ⟨.rfl s, fun _ => rfl, fun _ => rfl⟩

theorem State.Executes.of_ports {s t : State} (h : s.Edits t) (hports : t.ports = s.ports) : s.Executes t :=
  ⟨h, fun q => by rw [State.port, hports]; rfl, fun q => by rw [State.port, hports]; rfl⟩

/-- R162 for a request whose execution edits. -/
theorem State.edits_intake {s : State} {q : Port} (hlink : (s.port q).link = .up) (typ tag : Byte)
    {body : State → Answer} (hbody : s.Executes (body s).1) : s.Edits (s.intake q typ tag body) := by
  unfold State.intake
  split_ifs with hroom
  · refine hbody.edits.trans (State.edits_queueTx ((hbody.link q).trans hlink) ?_ _)
    rw [hbody.tx q]
    exact hroom
  · exact State.edits_setPort_linked (fun h => { h with overruns := Nat.min_le_right _ _ }) rfl rfl

theorem State.edits_taken (s : State) (q : Port) (typ tag : Byte) {body : State → Answer}
    (hbody : ∀ t : State, (t.port q).link = .up → t.Executes (body t).1) :
    s.Edits ((s.frameArrives q).intake q typ tag body) :=
  (s.edits_frameArrives q).trans
    (State.edits_intake (s.frameArrives_link q) typ tag (hbody _ (s.frameArrives_link q)))

/-! ## The enable -/

theorem stopGroup_brings_release (t : State) (q : Port) (c : StopCause) (g : GroupId) :
    ((if (t.group g).holder = some q then t.stopGroup g c else t).group g).holder = some q →
      ((if (t.group g).holder = some q then t.stopGroup g c else t).group g).state ≠ .moving := by
  split_ifs with hholder
  · exact fun _ => t.stopGroup_not_moving g c
  · exact fun h => absurd h hholder

theorem State.stopHeld_rest (s : State) (q : Port) (c : StopCause) (g : GroupId) :
    ((s.stopHeld q c).group g).holder = some q → ((s.stopHeld q c).group g).state ≠ .moving :=
  State.fold_brings (P := fun t x => (t.group x).holder = some q → (t.group x).state ≠ .moving)
    (fun t g => stopGroup_brings_release t q c g)
    (fun t g x hx => by
      by_cases hxg : x = g
      · rw [hxg]
        exact stopGroup_brings_release t q c g
      · split_ifs
        · rw [t.stopGroup_other hxg c]
          exact hx
        · exact hx) s g

theorem PortRec.Sound.drop {r : PortRec} (h : r.Sound) : PortRec.Sound { r with enable := false, enableWindow := none } :=
  { h with window := ⟨fun _ => rfl, fun _ => rfl⟩, enableUp := nofun }

theorem State.dropEnable_eq (s : State) (q : Port) : s.dropEnable q =
    (s.stopHeld q .enable).setPort q { s.port q with enable := false, enableWindow := none } :=
  (blind_stopHeld q .enable).setPort s q _

theorem State.stopHeld_port (s : State) (q x : Port) (c : StopCause) : (s.stopHeld q c).port x = s.port x :=
  congrArg (PerPort.get · x) (s.stopHeld_moves q c).runs.ports

theorem State.edits_dropEnable (s : State) (q : Port) : s.Edits (s.dropEnable q) := by
  rw [State.dropEnable_eq]
  refine (s.edits_stopHeld q .enable).trans (State.edits_setPort ⟨?_, ?_, .inr (s.stopHeld_rest q .enable)⟩)
  · rw [State.stopHeld_port]
    exact PortRec.Sound.drop
  · exact fun _ h => nomatch h

theorem State.dropEnable_other (s : State) (q x : Port) : ((s.dropEnable q).port x).link = (s.port x).link ∧
    ((s.dropEnable q).port x).tx = (s.port x).tx := by
  rw [State.dropEnable_eq, State.setPort_port, State.stopHeld_port]
  split_ifs with hx
  · rw [hx]
    exact ⟨rfl, rfl⟩
  · exact ⟨rfl, rfl⟩

/-- R159 by a port whose link is UP. -/
theorem State.executes_setEnable {s : State} {q : Port} (hlink : (s.port q).link = .up) (level : Bool) :
    s.Executes (s.setEnable q level) := by
  unfold State.setEnable
  split_ifs
  · refine ⟨State.edits_setPort ⟨fun h => { h with window := ⟨nofun, nofun⟩, enableUp := fun _ => hlink },
      fun _ _ => hlink, .inl fun _ _ => ⟨hlink, rfl⟩⟩, fun x => ?_, fun x => ?_⟩
    all_goals
      rw [State.setPort_port]
      split_ifs with hx
      · rw [hx]
      · rfl
  · exact ⟨s.edits_dropEnable q, fun x => (s.dropEnable_other q x).1, fun x => (s.dropEnable_other q x).2⟩
  · exact .refl s

theorem State.edits_enableExpiry (s : State) (q : Port) : s.Edits (s.enableExpiry q) := by
  unfold State.enableExpiry
  split_ifs
  · exact s.edits_dropEnable q
  · exact .rfl s

/-! ## Link loss -/

/-- R79 step 2 for one group. -/
def State.markOrphan (s : State) (g : GroupId) : State :=
  if (s.group g).orphaned then s
  else (s.setGroup g { s.group g with orphaned := true }).notifyAll .orphaned (.group g)

theorem State.orphan_eq (s : State) (q : Port) (g : GroupId) :
    s.orphan q g = if (s.group g).holder = some q then (s.markOrphan g).stopGroup g .link else s := rfl

theorem Blind.comp {f f' : State → State} (hf : Blind f) (hf' : Blind f') : Blind fun s => f' (f s) :=
  ⟨fun s u e v => by dsimp only; rw [hf.1, hf'.1], fun s => (hf.2 s).trans (hf'.2 _)⟩

theorem blind_markOrphan (g : GroupId) : Blind fun s => s.markOrphan g := by
  refine ⟨fun s u e v => ?_, fun s => ?_⟩
  · change (if (s.group g).orphaned then _ else _) = State.over (if _ then _ else _) u e v
    by_cases h : (s.group g).orphaned = true
    · rw [if_pos h, if_pos h]
    · rw [if_neg h, if_neg h]
      rfl
  · dsimp only [State.markOrphan]
    split_ifs
    · exact .refl s
    · rfl

theorem blind_orphan (q : Port) (g : GroupId) : Blind fun s => s.orphan q g :=
  ((blind_markOrphan g).comp (blind_stopGroup g .link)).ite (p := fun s => (s.group g).holder = some q)
    fun _ _ _ _ => .rfl

/-- R79 for every group. -/
def State.orphanAll (s : State) (q : Port) : State := allGroups.foldl (fun t g => t.orphan q g) s

theorem blind_orphanAll (q : Port) : Blind fun s => s.orphanAll q := .foldl (blind_orphan q) allGroups

theorem State.edits_orphan (s : State) (q : Port) (g : GroupId) : s.Edits (s.orphan q g) := by
  rw [State.orphan_eq]
  split_ifs with hholder
  · refine State.Edits.trans ?_ (State.edits_stopGroup _ g .link)
    unfold State.markOrphan
    split_ifs
    · exact .rfl s
    · refine (State.edits_setGroup (r := { s.group g with orphaned := true }) (.claim (fun _ => .inl rfl) ?_)).trans
        (State.edits_notifyAll _ _ _)
      exact fun _ _ hnone => nomatch hholder.symm.trans hnone
  · exact .rfl s

theorem State.edits_orphanAll (s : State) (q : Port) : s.Edits (s.orphanAll q) :=
  State.edits_foldl (fun t g => t.edits_orphan q g) _ s

theorem State.orphan_other (s : State) (q : Port) {g x : GroupId} (h : x ≠ g) : (s.orphan q g).group x = s.group x := by
  rw [State.orphan_eq]
  split_ifs
  · rw [State.stopGroup_other _ h]
    unfold State.markOrphan
    split_ifs
    · rfl
    · rw [State.notifyAll_group, State.setGroup_group, if_neg h]
  · rfl

theorem State.orphan_rest (t : State) (q : Port) (g : GroupId) :
    ((t.orphan q g).group g).holder = some q → ((t.orphan q g).group g).state ≠ .moving := by
  rw [State.orphan_eq]
  split_ifs with hholder
  · exact fun _ => State.stopGroup_not_moving _ g .link
  · exact fun h => absurd h hholder

theorem State.orphanAll_rest (s : State) (q : Port) (g : GroupId) :
    ((s.orphanAll q).group g).holder = some q → ((s.orphanAll q).group g).state ≠ .moving :=
  State.fold_brings (P := fun t x => (t.group x).holder = some q → (t.group x).state ≠ .moving)
    (fun t g => t.orphan_rest q g)
    (fun t g x hx => by
      by_cases hxg : x = g
      · rw [hxg]
        exact t.orphan_rest q g
      · rw [t.orphan_other q hxg]
        exact hx) s g

/-- A port record that a link loss leaves (R158). -/
def PortRec.lost (r : PortRec) : PortRec :=
  { r with link := .down, linkTimer := none, tx := [], enable := false, enableWindow := none }

theorem PortRec.Sound.lost {r : PortRec} (h : r.Sound) : r.lost.Sound :=
  { h with
    queue := Nat.zero_le 6
    linkTimer := ⟨fun _ => rfl, fun _ => rfl⟩
    window := ⟨fun _ => rfl, fun _ => rfl⟩
    enableUp := nofun
    downIdle := fun _ => rfl }

/-- The stops of an enable that goes with its link (R158, R160). -/
def State.loseEnable (s : State) (q : Port) : State := if (s.port q).enable then s.stopHeld q .enable else s

theorem State.loseEnable_moves (s : State) (q : Port) : s.MovesTo (s.loseEnable q) := by
  unfold State.loseEnable
  split_ifs
  · exact s.stopHeld_moves q .enable
  · exact .refl s

/-- R158 with the groups' part before the port's own. -/
theorem State.linkLoss_eq (s : State) (q : Port) :
    s.linkLoss q = (((s.loseEnable q).orphanAll q).setPort q (s.port q).lost).dropPortEntries q := by
  have hdown : (if (s.port q).enable then
      (s.setPort q { s.port q with link := .down, linkTimer := none, tx := [], enableWindow := none }).dropEnable q
      else s.setPort q { s.port q with link := .down, linkTimer := none, tx := [], enableWindow := none }) =
      (s.loseEnable q).setPort q (s.port q).lost := by
    unfold State.loseEnable
    split_ifs with henable
    · rw [State.dropEnable_eq, (blind_stopHeld q .enable).setPort]
      simp [PortRec.lost]
    · simp [PortRec.lost, henable]
  have hlost : s.linkLoss q = ((if (s.port q).enable then
      (s.setPort q { s.port q with link := .down, linkTimer := none, tx := [], enableWindow := none }).dropEnable q
      else s.setPort q { s.port q with link := .down, linkTimer := none, tx := [], enableWindow := none }).orphanAll
        q).dropPortEntries q := by
    simp only [State.linkLoss, State.setPort_port, if_true]
    rfl
  rw [hlost, hdown, (blind_orphanAll q).setPort]

theorem State.edits_linkLoss (s : State) (q : Port) : s.Edits (s.linkLoss q) := by
  have hgroups : s.Edits ((s.loseEnable q).orphanAll q) := by
    refine State.Edits.trans ?_ (State.edits_orphanAll _ q)
    unfold State.loseEnable
    split_ifs
    · exact s.edits_stopHeld q .enable
    · exact .rfl s
  have hport : ((s.loseEnable q).orphanAll q).port q = s.port q :=
    congrArg (PerPort.get · q) ((s.loseEnable_moves q).trans ((blind_orphanAll q).2 _)).runs.ports
  rw [State.linkLoss_eq]
  refine (hgroups.trans (State.edits_setPort ⟨?_, fun _ (h : false = true) => (nomatch h), .inr (State.orphanAll_rest _ q)⟩)).trans
    (State.edits_dropPortEntries _ q)
  rw [hport]
  exact PortRec.Sound.lost

theorem State.edits_linkExpiry (s : State) (q : Port) : s.Edits (s.linkExpiry q) := by
  unfold State.linkExpiry
  split_ifs
  · exact s.edits_linkLoss q
  · exact .rfl s

/-! ## Characters and transmission -/

theorem State.edits_abandon (s : State) (q : Port) : s.Edits (s.setPort q (s.port q).abandon) :=
  State.edits_setPort_linked
    (fun h => { h with errors := Nat.min_le_right _ _, gapTimer := ⟨fun _ => rfl, fun _ => rfl⟩ }) rfl rfl

theorem State.edits_hunt (s : State) (q : Port) : s.Edits (s.setPort q (s.port q).hunt) :=
  State.edits_setPort_linked (fun h => { h with gapTimer := ⟨fun _ => rfl, fun _ => rfl⟩ }) rfl rfl

theorem State.edits_inFrame (s : State) (q : Port) (bytes : List Byte) (t : Nat) :
    s.Edits (s.setPort q { s.port q with receiver := .inFrame bytes, gapTimer := s.timer t }) :=
  State.edits_setPort_linked (fun h => { h with gapTimer := ⟨nofun, nofun⟩ }) rfl rfl

theorem State.edits_gapExpiry (s : State) (q : Port) : s.Edits (s.gapExpiry q) := by
  unfold State.gapExpiry
  split_ifs
  · exact s.edits_abandon q
  · exact .rfl s

theorem State.edits_txEnd (s : State) (q : Port) : s.Edits (s.txEnd q) :=
  State.edits_setPort_linked
    (fun h => { h with
      queue := (List.length_tail ..).trans_le ((Nat.sub_le _ _).trans h.queue)
      downIdle := fun hdown => congrArg List.tail (h.downIdle hdown) }) rfl rfl

theorem State.edits_countError (s : State) (q : Port) :
    s.Edits (s.setPort q { s.port q with errors := satSucc (s.port q).errors }) :=
  State.edits_setPort_linked (fun h => { h with errors := Nat.min_le_right _ _ }) rfl rfl

end Sys2Proof.Machine
end

section
/-!
The requests as edits: each request's execution is a sequence of edits that leaves every port's link and queue as they
are.
-/
namespace Sys2Proof.Machine

theorem State.executes_deny (s : State) (r : Reject) : s.Executes (s.deny r).1 := .refl s

/-! ## The Point Directory and the Hoist Bus -/

theorem State.faultPoint_of_rest {s : State} {p : PointId} (h : s.pointActive p = false) (k : FaultKind) :
    s.faultPoint p k = s := by
  unfold State.pointActive at h
  unfold State.faultPoint
  split
  next g hg =>
    rw [hg] at h
    exact if_neg (ne_true_of_eq_false h)
  next => rfl

/-- R16 step 1 but for the point's own record: the slot of a bound point becomes FOREIGN, and its jobs go. -/
def State.left (s : State) (p : PointId) : State :=
  match (s.point p).boundSlot with
  | some n => (((s.setSlot n (s.slot n).madeForeign).dropJoin n).notifyAll .nodeForeign (.slot n)).discardJob p
  | none => s

/-- A point's record after R16 steps 1 and 2. -/
def PointRec.detached (r : PointRec) : PointRec :=
  { r with boundSlot := none, raw := if r.boundSlot.isSome then none else r.raw, load := r.load.dropCal }

theorem State.left_of_bound {s : State} {p : PointId} {n : SlotId} (h : (s.point p).boundSlot = some n) : s.left p =
    (((s.setSlot n (s.slot n).madeForeign).dropJoin n).notifyAll .nodeForeign (.slot n)).discardJob p := by
  rw [State.left, h]

theorem State.left_of_unbound {s : State} {p : PointId} (h : (s.point p).boundSlot = none) : s.left p = s := by
  rw [State.left, h]

theorem State.left_points (s : State) (p : PointId) : (s.left p).points = s.points := by
  unfold State.left
  split <;> rfl

theorem State.left_groups (s : State) (p : PointId) : (s.left p).groups = s.groups := by
  unfold State.left
  split <;> rfl

theorem State.left_ports (s : State) (p : PointId) : (s.left p).ports = s.ports := by
  unfold State.left
  split <;> rfl

/-- R16 steps 1 and 2 of a point at rest. -/
theorem State.detach_eq {s : State} {p : PointId} (h : s.pointActive p = false) :
    s.detach p = (s.left p).setPoint p (s.point p).detached := by
  cases hbound : (s.point p).boundSlot with
  | none =>
    have hrec : { s.point p with load := (s.point p).load.dropCal } = (s.point p).detached := by
      simp [PointRec.detached, hbound]
    rw [State.left_of_unbound hbound, ← hrec, State.detach, hbound]
    rfl
  | some n =>
    have hunbound : (s.setSlot n (s.slot n).madeForeign).unbindPoint p =
        (s.setSlot n (s.slot n).madeForeign).setPoint p (s.point p).unbound :=
      State.faultPoint_of_rest (s := (s.setSlot n (s.slot n).madeForeign).setPoint p (s.point p).unbound) (by
        rw [← h]
        simp only [State.pointActive, State.setPoint_point, if_true]
        rfl) .nodeLost
    have hrec : (s.point p).detached = { (s.point p).unbound with load := (s.point p).unbound.load.dropCal } := by
      rw [PointRec.detached, hbound]
      rfl
    have hgives : s.detach p = ((s.left p).setPoint p (s.point p).unbound).setLoad p
        (((s.left p).setPoint p (s.point p).unbound).point p).load.dropCal := by
      rw [State.left_of_bound hbound, State.detach, hbound]
      simp only [hunbound]
      rfl
    rw [hgives, State.setLoad, State.setPoint_setPoint, State.setPoint_point, if_pos rfl, hrec]

theorem State.edits_discardJob (s : State) (p : PointId) : s.Edits (s.discardJob p) := by
  unfold State.discardJob
  cases h : s.service.active with
  | none => exact s.edits_jobEnds
  | some j =>
    refine State.edits_setActive h ?_ ?_ ?_ <;> dsimp only <;> split_ifs <;> rfl

theorem State.edits_detach {s : State} {p : PointId} (h : s.pointActive p = false) : s.Edits (s.detach p) := by
  rw [State.detach_eq h]
  cases hbound : (s.point p).boundSlot with
  | none =>
    rw [State.left_of_unbound hbound]
    refine State.edits_setPoint ⟨rfl, hbound.symm, rfl, ?_, LoadPart.Sound.dropCal, fun hr => ⟨hr.stopLead, hr.softLimits, hr.trim⟩, fun _ => ⟨rfl, rfl⟩⟩
    rw [PointRec.detached, hbound]
    rfl
  | some n =>
    have hunlinks : s.Edits ((s.left p).setPoint p (s.point p).unbound) := by
      rw [State.left_of_bound hbound]
      exact (((State.Edit.unlinks s p n _ (.inr hbound) (.inr rfl)).edits).trans
        (State.edits_notifyAll _ .nodeForeign (.slot n))).trans (State.edits_discardJob _ p)
    have hdrops := State.edits_setPoint (s := (s.left p).setPoint p (s.point p).unbound) (p := p)
      (r := (s.point p).detached) (by
        rw [State.setPoint_point, if_pos rfl]
        refine ⟨rfl, rfl, rfl, ?_, fun hl => ?_, fun hr => ⟨hr.stopLead, hr.softLimits, hr.trim⟩, fun _ => ⟨rfl, rfl⟩⟩
        · rw [PointRec.detached, hbound]
          rfl
        · exact hl.dropCal)
    rw [State.setPoint_setPoint] at hdrops
    exact hunlinks.trans hdrops

theorem State.detach_pointActive {s : State} {p : PointId} (h : s.pointActive p = false) (x : PointId) :
    (s.detach p).pointActive x = s.pointActive x := by
  have hgroup : ((s.detach p).point x).group = (s.point x).group := by
    rw [State.detach_eq h, State.setPoint_point]
    split_ifs with hx
    · rw [hx]
      rfl
    · exact congrArg (fun v : Vector PointRec 48 => v[x].group) (s.left_points p)
  have hgroups : (s.detach p).groups = s.groups := by
    rw [State.detach_eq h]
    exact s.left_groups p
  unfold State.pointActive
  rw [hgroup]
  split
  next g _ => exact congrArg (fun v : Vector GroupRec 16 => v[g].state.active) hgroups
  next => rfl

theorem State.detach_point {s : State} {p : PointId} (h : s.pointActive p = false) (x : PointId) :
    (s.detach p).point x = if x = p then (s.point p).detached else s.point x := by
  rw [State.detach_eq h, State.setPoint_point]
  exact ite_congr rfl (fun _ => rfl) fun _ => congrArg (fun v : Vector PointRec 48 => v[x]) (s.left_points p)

theorem State.foreignSlot_spec {s : State} {x : Identity} {n : SlotId} (h : s.foreignSlot x = some n) :
    (s.slot n).state = .foreign ∧ (s.slot n).identity = some x := by
  simpa [State.foreignSlot] using List.find?_some h

/-- A detached point is given an identity of its own, or none, with its limits. -/
theorem State.edits_patch {s : State} {p : PointId} (h : s.pointActive p = false) {i : Option Identity}
    {lo hi trim : Int} (hi' : s.MayPatch p i)
    (hrange : (s.point p).InRange → { s.point p with softMin := lo, softMax := hi, trim := trim : PointRec }.InRange) :
    s.Edits ((s.detach p).setPoint p { (s.detach p).point p with identity := i, softMin := lo, softMax := hi, trim := trim }) := by
  refine (State.edits_detach h).trans (State.Edit.patch _ p i lo hi trim ?_ ?_ ?_ ?_).edits
  · rw [State.detach_point h, if_pos rfl]
    rfl
  · rw [State.detach_pointActive h]
    exact h
  · intro x hx
    obtain ⟨hzero, hones, hfree⟩ := hi' x hx
    refine ⟨hzero, hones, fun q hq => ?_⟩
    rw [State.detach_point h] at hq
    split_ifs at hq with hqp
    · exact hqp
    · exact hfree q hq
  · rw [State.detach_point h, if_pos rfl]
    intro hr
    have hr' := hrange ⟨hr.stopLead, hr.softLimits, hr.trim⟩
    exact ⟨hr'.stopLead, hr'.softLimits, hr'.trim⟩

theorem State.edits_repatch {s : State} {p : PointId} (h : s.pointActive p = false) {x : Identity} {lo hi trim : Int}
    (hx : s.MayPatch p (some x))
    (hrange : (s.point p).InRange → { s.point p with softMin := lo, softMax := hi, trim := trim : PointRec }.InRange) :
    s.Edits (s.repatch p x lo hi trim) := by
  have hpatch := State.edits_patch h hx hrange
  unfold State.repatch
  dsimp only
  split
  next n hn =>
    obtain ⟨hforeign, hidentity⟩ := State.foreignSlot_spec hn
    have hunbound : (((s.detach p).setPoint p { (s.detach p).point p with
        identity := some x, softMin := lo, softMax := hi, trim := trim }).point p).boundSlot = none := by
      rw [State.setPoint_point, if_pos rfl, State.detach_point h, if_pos rfl]
      rfl
    have hpatched : (((s.detach p).setPoint p { (s.detach p).point p with
        identity := some x, softMin := lo, softMax := hi, trim := trim }).point p).identity = some x := by
      rw [State.setPoint_point, if_pos rfl]
    exact ((hpatch.trans (State.Edit.relinks _ p n x hforeign hidentity hpatched hunbound).edits).trans
      (State.edits_notifyAll _ .nodeJoined (.point p))).trans (State.edits_startJob _)
  next => exact hpatch

theorem State.detach_ports (s : State) (p : PointId) : (s.detach p).ports = s.ports := by
  unfold State.detach
  cases (s.point p).boundSlot with
  | none => rfl
  | some n => exact (State.faultPoint_moves _ p .nodeLost).runs.ports

theorem State.repatch_ports (s : State) (p : PointId) (x : Identity) (lo hi trim : Int) :
    (s.repatch p x lo hi trim).ports = s.ports := by
  unfold State.repatch
  dsimp only
  split
  · rw [(State.startJob_serves _).binds.ports]
    exact s.detach_ports p
  · exact s.detach_ports p

theorem State.not_identityTaken {s : State} {p : PointId} {x : Identity} (h : ¬ s.identityTaken p x = true) (q : PointId)
    (hq : (s.point q).identity = some x) : q = p := by
  by_contra hne
  exact h (List.any_eq_true.mpr ⟨q, List.mem_finRange q, by simp [hne, hq]⟩)

theorem State.executes_patchPoint (s : State) (point : Byte) (x : Identity) (softMin softMax : Word24) (trim : Word16) :
    s.Executes (reqPatchPoint point x softMin softMax trim s).1 := by
  unfold reqPatchPoint
  split
  next => exact s.executes_deny _
  next p _ =>
    dsimp only
    split_ifs with hvalid hlimits htaken hactive hown
    · exact s.executes_deny _
    · exact s.executes_deny _
    · exact s.executes_deny _
    · exact s.executes_deny _
    all_goals
      have hrest : s.pointActive p = false := eq_false_of_ne_true hactive
      have hlo := clamp_bounds (lo := -1000) (hi := 66535) (by omega) softMin.toInt
      have hhi := clamp_bounds (lo := -1000) (hi := 66535) (by omega) softMax.toInt
      have htrim := clamp_bounds (lo := -1000) (hi := 1000) (by omega) trim.toInt
      have hrange : (s.point p).InRange → PointRec.InRange { s.point p with
          softMin := clamp (-1000) 66535 softMin.toInt, softMax := clamp (-1000) 66535 softMax.toInt
          trim := clamp (-1000) 1000 trim.toInt } :=
        fun hr => ⟨hr.stopLead, ⟨hlo.1, not_lt.mp hlimits, hhi.2⟩, htrim⟩
    · refine .of_ports (State.edits_setPoint ⟨rfl, rfl, rfl, rfl, id, hrange, fun h => ?_⟩) rfl
      exact absurd (hrest.symm.trans h) nofun
    · refine .of_ports (State.edits_repatch hrest (fun y hy => ?_) hrange) (s.repatch_ports ..)
      cases hy
      exact ⟨fun h => hvalid (.inl h), fun h => hvalid (.inr h), State.not_identityTaken htaken⟩

theorem State.executes_unpatch (s : State) (point : Byte) : s.Executes (reqUnpatch point s).1 := by
  unfold reqUnpatch
  split
  next => exact s.executes_deny _
  next p _ =>
    split_ifs with hactive
    · exact s.executes_deny _
    · exact .refl s
    · refine .of_ports ?_ (s.detach_ports p)
      have hrest : s.pointActive p = false := eq_false_of_ne_true hactive
      have hpatch := State.edits_patch hrest (i := none) (lo := (s.point p).softMin) (hi := (s.point p).softMax)
        (trim := (s.point p).trim) (fun _ h => nomatch h) id
      have hself := (State.detach_point hrest p).trans (if_pos rfl)
      change s.Edits ((s.detach p).setPoint p { (s.detach p).point p with identity := none })
      rw [hself] at hpatch ⊢
      exact hpatch

theorem State.executes_pointRead (s : State) (point : Byte) : s.Executes (reqPointRead point s).1 := by
  unfold reqPointRead
  split <;> exact .refl s

theorem State.executes_slotRead (s : State) (first count : Byte) : s.Executes (reqSlotRead first count s).1 := by
  unfold reqSlotRead
  split_ifs <;> exact .refl s

theorem State.edits_setSlots (s : State) (slots : Vector SlotRec 48) (h : ∀ n : SlotId, (s.slots[n]).EditTo slots[n]) :
    s.Edits { s with slots := slots } :=
  (State.Edit.slots s slots h).edits

theorem State.edits_configureBus (s : State) (e : Epoch) (m : AcceptMode) : s.Edits (s.configureBus e m) := by
  have hbus : s.Edits (s.setBus { s.bus with epoch := e, mode := m, framePos := 0, restart := true }) :=
    (State.Edit.bus s _ fun _ => by cases e <;> simp [Epoch.frames]).edits
  refine (hbus.trans (State.edits_setPoints _ (s.points.map fun r => { r with load := r.load.restart }) fun p a => ?_)).trans
    (State.edits_setSlots _ (s.slots.map fun r => { r with candidate := none }) fun n => ?_)
  · rw [Fin.getElem_fin (Vector.map ..), Vector.getElem_map]
    exact ⟨rfl, rfl, rfl, rfl, LoadPart.Sound.restart, fun hr => ⟨hr.stopLead, hr.softLimits, hr.trim⟩, fun _ => ⟨rfl, rfl⟩⟩
  · rw [Fin.getElem_fin (Vector.map ..), Vector.getElem_map]
    exact ⟨rfl, rfl, rfl, id, fun _ h => ⟨rfl, h.2⟩⟩

theorem State.executes_busConfig (s : State) (epoch mode : Byte) : s.Executes (reqBusConfig epoch mode s).1 := by
  unfold reqBusConfig
  split
  · split_ifs
    · exact s.executes_deny _
    · exact .of_ports (s.edits_configureBus _ _) rfl
  · exact s.executes_deny _

end Sys2Proof.Machine
end

section
/-!
The requests of the Group Table, the Load Unit, the Motion Engine, the Notice Unit, the Stop Unit and the Cue Engine as
edits.
-/
namespace Sys2Proof.Machine

/-! ## The Group Table -/

theorem State.inUse_none_free {s : State} {g : GroupId} {ps : List PointId} (h : s.inUse g ps = none) :
    ∀ p ∈ ps, ∀ k, (s.point p).group = some k → k = g := by
  induction ps with
  | nil => exact fun p hp => nomatch hp
  | cons p ps ih =>
    rw [State.inUse] at h
    intro x hx k hk
    cases hgroup : (s.point p).group with
    | none =>
      rw [hgroup] at h
      rcases List.mem_cons.mp hx with rfl | hx
      · cases hgroup.symm.trans hk
      · exact ih h x hx k hk
    | some j =>
      rw [hgroup] at h
      dsimp only at h
      split_ifs at h with hj
      rcases List.mem_cons.mp hx with rfl | hx
      · cases hgroup.symm.trans hk
        exact hj
      · exact ih h x hx k hk

theorem length_of_pointsOf {l : List Byte} {ps : List PointId} (h : pointsOf l = some ps) : ps.length = l.length := by
  induction l generalizing ps with
  | nil =>
    cases h
    rfl
  | cons b l ih =>
    rw [pointsOf] at h
    split at h
    next p qs _ hrest =>
      cases h
      rw [List.length_cons, List.length_cons, ih hrest]
    next => cases h

theorem State.executes_setMembers (s : State) (q : Port) (group : Byte) (points : List Byte) :
    s.Executes (reqSetMembers q group points s).1 := by
  unfold reqSetMembers
  split_ifs with hlength
  · exact s.executes_deny _
  · split
    next g ps _ hps =>
      split_ifs with hnodup hholder hidle
      · exact s.executes_deny _
      · exact s.executes_deny _
      · split
        next => exact s.executes_deny _
        next hfree =>
          have hsize : ps.length ≤ 24 := (length_of_pointsOf hps).trans_le (not_lt.mp hlength)
          exact .of_ports (State.Edit.members s g ps
            ⟨not_not.mp hidle, hsize, hnodup, State.inUse_none_free hfree⟩).edits (s.replaceMembers_ports g ps)
      · exact s.executes_deny _
    next => exact s.executes_deny _

/-- A group that is claimed while nobody holds it, or while it is at rest, or by its holder. -/
theorem State.executes_giveClaim {s : State} {q : Port} {g : GroupId}
    (h : (s.group g).state.active = true → some q = (s.group g).holder ∨ (s.group g).holder = none) :
    s.Executes (s.giveClaim q g) :=
  .of_ports ((State.edits_setGroup (r := { s.group g with holder := some q, orphaned := false })
    (.claim h fun _ h => nomatch h)).trans (State.edits_notifyAll _ _ _)) rfl

theorem State.executes_renewClaim {s : State} {q : Port} {g : GroupId} (h : (s.group g).holder = some q) :
    s.Executes (s.renewClaim q g) := by
  unfold State.renewClaim
  split_ifs
  · exact State.executes_giveClaim fun _ => .inl h.symm
  · exact .refl s

theorem State.executes_claim (s : State) (q : Port) (group : Byte) : s.Executes (reqClaim q group s).1 := by
  unfold reqClaim
  split
  next => exact s.executes_deny _
  next g _ =>
    split
    next hnone => exact State.executes_giveClaim fun _ => .inr hnone
    next h hholder =>
      split_ifs with hq
      · exact State.executes_renewClaim (hq ▸ hholder)
      · exact s.executes_deny _

theorem State.executes_release (s : State) (q : Port) (group : Byte) : s.Executes (reqRelease q group s).1 := by
  unfold reqRelease
  split
  next => exact s.executes_deny _
  next g _ =>
    split_ifs with _ hactive
    · exact s.executes_deny _
    · exact s.executes_deny _
    · exact .of_ports ((State.edits_setGroup (r := { s.group g with holder := none, orphaned := false })
        (.claim (fun h => absurd h hactive) fun _ (h : false = true) => nomatch h)).trans (State.edits_notifyAll _ _ _)) rfl

theorem State.executes_takeover (s : State) (q : Port) (group : Byte) : s.Executes (reqTakeover q group s).1 := by
  unfold reqTakeover
  split
  next => exact s.executes_deny _
  next g _ =>
    split
    next hnone => exact State.executes_giveClaim fun _ => .inr hnone
    next h hholder =>
      split_ifs with hq _ hactive
      · exact State.executes_renewClaim (hq ▸ hholder)
      · exact s.executes_deny _
      · exact State.executes_giveClaim fun h => absurd h hactive
      · exact s.executes_deny _

theorem clampBands_inRange (pause resume trip share tolerance : Nat) :
    (clampBands pause resume trip share tolerance).InRange := by
  constructor <;> simp only [clampBands] <;> omega

theorem State.executes_setBands (s : State) (q : Port) (group : Byte) (pause resume trip share tolerance : Word16) :
    s.Executes (reqSetBands q group pause resume trip share tolerance s).1 := by
  unfold reqSetBands
  split
  next => exact s.executes_deny _
  next g _ =>
    split_ifs
    · exact s.executes_deny _
    · exact s.executes_deny _
    · exact .of_ports (State.edits_setGroup (.setBands (clampBands_inRange ..))) rfl

theorem State.executes_groupRead (s : State) (group : Byte) : s.Executes (reqGroupRead group s).1 := by
  unfold reqGroupRead
  split <;> exact .refl s

/-! ## The Load Unit -/

theorem State.executes_queueJob (s : State) {e : PortEntry} (data : List Byte)
    (hwrite : (s.point e.point).load.Sound → ∀ c, e.write = some c → c.inRange = true) :
    s.Executes (s.queueJob e data).1 := by
  unfold State.queueJob
  split_ifs with hfull
  · exact s.executes_deny _
  · exact .of_ports (State.edits_queueEntry (eq_false_of_ne_true hfull) hwrite) (State.startJob_serves _).binds.ports

theorem State.executes_serviceable (s : State) (p : PointId) {k : SlotId → Answer} (hk : ∀ n, s.Executes (k n).1) :
    s.Executes (s.serviceable p k).1 := by
  unfold State.serviceable
  split_ifs
  · exact s.executes_deny _
  · split
    · exact s.executes_deny _
    · exact hk _

theorem codeSum_le {w : List Code} (h : ∀ r ∈ w, r.toNat ≤ 4095) : codeSum w ≤ w.length * 4095 := by
  have hle : ∀ x ∈ w.map BitVec.toNat, x ≤ 4095 := fun x hx => by
    obtain ⟨r, hr, rfl⟩ := List.mem_map.mp hx
    exact h r hr
  have hsum := List.sum_le_card_nsmul _ 4095 hle
  rwa [List.length_map, smul_eq_mul] at hsum

/-- R54: the new zero is an average of codes. -/
theorem tareZero_le {w : List Code} (h : w.length ≤ 8) : tareZero w ≤ 4095 := by
  have hsum : codeSum w ≤ w.length * 4095 := codeSum_le fun r _ => Nat.le_of_lt_succ r.isLt
  unfold tareZero
  omega

theorem State.executes_tare (s : State) (q : Port) (point : Byte) : s.Executes (reqTare q point s).1 := by
  unfold reqTare
  split
  next => exact s.executes_deny _
  next p _ =>
    refine s.executes_serviceable p fun n => ?_
    split
    next => exact s.executes_deny _
    next c hcal =>
      split_ifs
      · refine s.executes_queueJob _ fun hsound c' hc' => ?_
        cases hc'
        obtain ⟨_, hrest⟩ := (Cal.inRange_iff c).mp (hsound.cal c hcal)
        exact (Cal.inRange_iff _).mpr ⟨tareZero_le hsound.window, hrest⟩
      · exact s.executes_deny _

theorem State.executes_calWrite (s : State) (q : Port) (point : Byte) (zero span wll : Word16) :
    s.Executes (reqCalWrite q point zero span wll s).1 := by
  unfold reqCalWrite
  dsimp only
  split
  next => exact s.executes_deny _
  next p _ =>
    split_ifs with hrange
    · refine s.executes_serviceable p fun n => s.executes_queueJob _ fun _ c hc => ?_
      cases hc
      exact hrange
    · exact s.executes_deny _

theorem State.executes_calRead (s : State) (q : Port) (point : Byte) : s.Executes (reqCalRead q point s).1 := by
  unfold reqCalRead
  split
  next => exact s.executes_deny _
  next p _ => exact s.executes_serviceable p fun n => s.executes_queueJob _ fun _ c hc => nomatch hc

/-- A notice for all ports when a condition holds. -/
def State.noteIf (s : State) (b : Bool) (k : NoticeKind) (u : Subject) : State := if b then s.notifyAll k u else s

theorem State.edits_noteIf (s : State) (b : Bool) (k : NoticeKind) (u : Subject) : s.Edits (s.noteIf b k u) := by
  unfold State.noteIf
  split_ifs
  · exact s.edits_notifyAll k u
  · exact .rfl s

theorem State.noteIf_points (s : State) (b : Bool) (k : NoticeKind) (u : Subject) : (s.noteIf b k u).points = s.points := by
  unfold State.noteIf
  split_ifs <;> rfl

theorem State.noteIf_ports (s : State) (b : Bool) (k : NoticeKind) (u : Subject) : (s.noteIf b k u).ports = s.ports := by
  unfold State.noteIf
  split_ifs <;> rfl

theorem State.setLoad_noteIf (s : State) (p : PointId) (l : LoadPart) (b : Bool) (k : NoticeKind) (u : Subject) :
    (s.setLoad p l).noteIf b k u = (s.noteIf b k u).setLoad p l := by
  unfold State.noteIf
  cases b <;> rfl

theorem State.noteIf_load (s : State) (p : PointId) (b : Bool) (k : NoticeKind) (u : Subject) :
    ((s.noteIf b k u).point p).load = (s.point p).load :=
  congrArg (fun v : Vector PointRec 48 => v[p].load) (s.noteIf_points b k u)

/-- R61 for the overload condition of a load part that is being stored. -/
theorem State.clearOverload_setLoad (s : State) (p : PointId) (l : LoadPart) (notify : Bool) :
    (s.setLoad p l).clearOverload p notify =
      (s.noteIf (l.overload.active && l.overload.exitSeen && notify) .overloadCleared (.point p)).setLoad p
        { l with overload := l.overload.cleared } := by
  rw [← State.setLoad_noteIf]
  simp [State.clearOverload, State.noteIf, State.setLoad, and_assoc]

theorem State.clearUnderload_setLoad (s : State) (p : PointId) (l : LoadPart) (notify : Bool) :
    (s.setLoad p l).clearUnderload p notify =
      (s.noteIf (l.underload.active && l.underload.exitSeen && notify) .underloadCleared (.point p)).setLoad p
        { l with underload := l.underload.cleared } := by
  rw [← State.setLoad_noteIf]
  simp [State.clearUnderload, State.noteIf, State.setLoad, and_assoc]

theorem State.setLoad_self (s : State) (p : PointId) : s.setLoad p (s.point p).load = s := s.setPoint_self p

theorem Condition.cleared_exit {c : Condition} (h : c.exitSeen = true → c.active = true) : c.cleared.exitSeen = false := by
  unfold Condition.cleared
  split_ifs with hc
  · rfl
  · exact eq_false_of_ne_true fun hexit => hc ⟨h hexit, hexit⟩

/-- R61, R62: both conditions of a load part ended where their exit has been seen. -/
def LoadPart.cleared (l : LoadPart) : LoadPart :=
  { l with overload := l.overload.cleared, underload := l.underload.cleared }

/-- R61 for both conditions of a load part that is being stored: the notices, then the load part. -/
theorem State.edits_clear_setLoad {s : State} {p : PointId} {l : LoadPart} (notify : Bool)
    (h : (s.point p).load.Sound → l.cleared.Sound) :
    s.Edits (((s.setLoad p l).clearOverload p notify).clearUnderload p notify) := by
  rw [State.clearOverload_setLoad, State.clearUnderload_setLoad]
  refine ((s.edits_noteIf _ _ _).trans (State.edits_noteIf _ _ _ _)).trans (State.edits_setLoad ?_)
  rw [State.noteIf_load, State.noteIf_load]
  exact h

theorem State.clear_setLoad_ports (s : State) (p : PointId) (l : LoadPart) (notify : Bool) :
    (((s.setLoad p l).clearOverload p notify).clearUnderload p notify).ports = s.ports := by
  rw [State.clearOverload_setLoad, State.clearUnderload_setLoad, State.setLoad_ports, State.noteIf_ports,
    State.noteIf_ports]

theorem LoadPart.Sound.cleared {l : LoadPart} (h : l.Sound) : l.cleared.Sound :=
  { h with
    overExit := fun hexit => nomatch hexit.symm.trans (Condition.cleared_exit fun he => (h.overExit he).1)
    underExit := fun hexit => nomatch hexit.symm.trans (Condition.cleared_exit fun he => (h.underExit he).1) }

theorem State.executes_clearLoadAlarm (s : State) (point : Byte) : s.Executes (reqClearLoadAlarm point s).1 := by
  unfold reqClearLoadAlarm
  split
  next => exact s.executes_deny _
  next p _ =>
    have hedits := State.edits_clear_setLoad (s := s) (p := p) (l := (s.point p).load) true LoadPart.Sound.cleared
    have hports := s.clear_setLoad_ports p (s.point p).load true
    rw [State.setLoad_self] at hedits hports
    exact .of_ports hedits hports

/-- R62: the clamped limits lie in their ranges, and nothing else changes but the mode. -/
theorem LoadPart.Sound.limited {l : LoadPart} (h : l.Sound) (high low hyst : Nat) {mode : AlarmMode}
    (hmode : l.alarm = .latch → mode = .latch) : (l.limited high low hyst mode).Sound := by
  have hwll : ∀ c, l.cal = some c → 50 ≤ c.wll ∧ c.wll ≤ 20000 := fun c hc =>
    ((Cal.inRange_iff c).mp (h.cal c hc)).2.2.2
  refine { h with
    high := .inr ?_
    low := ?_
    hyst := ?_
    overExit := fun he => ⟨(h.overExit he).1, hmode (h.overExit he).2⟩
    underExit := fun he => ⟨(h.underExit he).1, hmode (h.underExit he).2⟩ }
  all_goals
    simp only [LoadPart.limited]
  · split
    next c hc =>
      have := hwll c hc
      omega
    next => omega
  · split
    next c hc =>
      have := hwll c hc
      omega
    next => omega
  · omega

theorem LoadPart.Sound.limited_cleared {l : LoadPart} (h : l.Sound) (high low hyst : Nat) (mode : AlarmMode) :
    (l.limited high low hyst mode).cleared.Sound := by
  have hlimited := h.limited high low hyst (mode := l.alarm) id
  exact { hlimited.cleared with
    overExit := fun hexit => nomatch hexit.symm.trans (Condition.cleared_exit fun he => (h.overExit he).1)
    underExit := fun hexit => nomatch hexit.symm.trans (Condition.cleared_exit fun he => (h.underExit he).1) }

theorem State.edits_lowOff (s : State) (p : PointId) : s.Edits (s.lowOff p) := by
  have hset : s.Edits (s.setLoad p { (s.point p).load with underload := ⟨false, false⟩ }) :=
    State.edits_setLoad fun h => { h with underExit := nofun }
  simp only [State.lowOff]
  split_ifs
  · exact hset.trans (State.edits_notifyAll _ _ _)
  · exact hset
  · exact .rfl s

theorem State.lowOff_ports (s : State) (p : PointId) : (s.lowOff p).ports = s.ports := by
  simp only [State.lowOff]
  split_ifs <;> rfl

/-- R62's limits stored with a change of mode: in the changed mode the conditions whose exit has been seen end. -/
theorem State.edits_leaveLatch (s : State) (p : PointId) (high low hyst : Nat) (mode : AlarmMode) :
    s.Edits ((s.setLoad p ((s.point p).load.limited high low hyst mode)).leaveLatch p (s.point p).load.alarm mode) := by
  unfold State.leaveLatch
  split_ifs with hleaves
  · exact State.edits_clear_setLoad _ fun h => h.limited_cleared high low hyst mode
  · refine State.edits_setLoad fun h => h.limited high low hyst fun hlatch => ?_
    exact by_contra fun hmode => hleaves ⟨hlatch, hmode⟩

theorem State.leaveLatch_ports (s : State) (p : PointId) (l : LoadPart) (before mode : AlarmMode) :
    ((s.setLoad p l).leaveLatch p before mode).ports = s.ports := by
  unfold State.leaveLatch
  split_ifs
  · exact s.clear_setLoad_ports p l _
  · rfl

theorem State.executes_setLoadLimits (s : State) (point : Byte) (high low hyst : Word16) (mode : Byte) :
    s.Executes (reqSetLoadLimits point high low hyst mode s).1 := by
  unfold reqSetLoadLimits
  split
  next p m _ _ =>
    refine .of_ports (((s.edits_leaveLatch p _ _ _ m).trans (State.edits_lowOff _ p)).trans
      (State.edits_evaluateLoads _ p)) ?_
    exact ((State.evaluateLoads_runs _ p).ports.trans (State.lowOff_ports _ p)).trans (s.leaveLatch_ports p _ _ m)
  next => exact s.executes_deny _

theorem State.executes_setDutyLimit (s : State) (point : Byte) (limit : Word16) :
    s.Executes (reqSetDutyLimit point limit s).1 := by
  unfold reqSetDutyLimit
  split
  next => exact s.executes_deny _
  next p _ =>
    have hlimit : 300 ≤ max 300 (min limit.toNat 60000) ∧ max 300 (min limit.toNat 60000) ≤ 60000 := by omega
    have hset : s.Edits (s.setLoad p { (s.point p).load with dutyLimit := max 300 (min limit.toNat 60000) }) :=
      State.edits_setLoad fun h => { h with dutyLimit := hlimit }
    exact .of_ports (hset.trans (State.edits_evaluateDuty _ p)) (State.evaluateDuty_runs _ p).ports

theorem State.executes_loadRead (s : State) (point : Byte) : s.Executes (reqLoadRead point s).1 := by
  unfold reqLoadRead
  split <;> exact .refl s

/-! ## The Motion Engine -/

theorem State.executes_startReply (s : State) (q : Port) (g : GroupId) (m : Move) :
    s.Executes (s.startReply q g m).1 := by
  have hedits := s.edits_start (some q) .console g m
  have hports := (s.start_moves (some q) .console g m).runs.ports
  unfold State.startReply
  split <;> rename_i s1 _ heq <;> rw [heq] at hedits hports <;> exact .of_ports hedits hports

theorem State.executes_moveTo (s : State) (q : Port) (group : Byte) (height : Word24) :
    s.Executes (reqMoveTo q group height s).1 := by
  unfold reqMoveTo
  split
  next => exact s.executes_deny _
  next g _ =>
    split_ifs
    · exact s.executes_startReply q g _
    · exact s.executes_deny _

theorem State.executes_moveBy (s : State) (q : Port) (group : Byte) (distance : Word24) :
    s.Executes (reqMoveBy q group distance s).1 := by
  unfold reqMoveBy
  split
  next => exact s.executes_deny _
  next g _ =>
    split_ifs
    · exact s.executes_startReply q g _
    · exact s.executes_deny _

theorem State.executes_jog (s : State) (q : Port) (group direction : Byte) : s.Executes (reqJog q group direction s).1 := by
  unfold reqJog
  split
  · exact s.executes_startReply q _ _
  · exact s.executes_deny _

theorem State.executes_stop (s : State) (group : Byte) : s.Executes (reqStop group s).1 := by
  unfold reqStop
  split
  next => exact s.executes_deny _
  next g _ => exact .of_ports (s.edits_stopGroup g .stop) (s.stopGroup_moves g .stop).runs.ports

theorem GroupRec.EditTo.acknowledged (r : GroupRec) :
    r.EditTo { r.updAll Member.rested with state := .idle, fault := none } :=
  .of_map Member.rested rfl (fun _ => ⟨rfl, rfl, rfl⟩) nofun nofun rfl rfl rfl rfl

theorem State.executes_ackFault (s : State) (q : Port) (group : Byte) : s.Executes (reqAckFault q group s).1 := by
  unfold reqAckFault
  split
  next => exact s.executes_deny _
  next g _ =>
    dsimp only
    split
    · exact s.executes_deny _
    · split
      next => exact s.executes_deny _
      next => exact s.executes_deny _
      next => exact .refl s
      next =>
        split_ifs
        · exact .of_ports (State.edits_setGroup (.acknowledged _)) rfl
        · exact s.executes_deny _

theorem State.executes_setStopLead (s : State) (point : Byte) (lead : Word16) :
    s.Executes (reqSetStopLead point lead s).1 := by
  unfold reqSetStopLead
  split
  next => exact s.executes_deny _
  next p _ =>
    split_ifs
    · exact s.executes_deny _
    · exact .of_ports (State.edits_setPoint ⟨rfl, rfl, rfl, rfl, id,
        fun hr => ⟨Nat.min_le_right _ _, hr.softLimits, hr.trim⟩, fun _ => ⟨rfl, rfl⟩⟩) rfl

theorem State.executes_motionRead (s : State) (group : Byte) (first : Option Byte) :
    s.Executes (reqMotionRead group first s).1 := by
  unfold reqMotionRead
  split
  next => exact s.executes_deny _
  next =>
    dsimp only
    split_ifs
    · exact s.executes_deny _
    · exact .refl s

/-! ## The Stop Unit -/

theorem State.executes_clearStopFlags (s : State) (point : Byte) : s.Executes (reqClearStopFlags point s).1 := by
  unfold reqClearStopFlags
  split
  next => exact s.executes_deny _
  next p _ =>
    split_ifs
    · exact s.executes_deny _
    · exact .of_ports (s.edits_setStop p _) rfl

theorem State.edits_levelFlag (s : State) (p : PointId) (before : PerKind DetectMode) (k : StopKind) :
    s.Edits (s.levelFlag p before k) := by
  simp only [State.levelFlag]
  split_ifs
  · exact s.edits_setStop p _
  · exact (s.edits_setStop p _).trans (State.edits_notifyAll _ _ _)
  · exact .rfl s

theorem State.levelFlag_ports (s : State) (p : PointId) (before : PerKind DetectMode) (k : StopKind) :
    (s.levelFlag p before k).ports = s.ports := by
  simp only [State.levelFlag]
  split_ifs <;> rfl

theorem State.executes_setStopConfig (s : State) (point modes masks : Byte) :
    s.Executes (reqSetStopConfig point modes masks s).1 := by
  unfold reqSetStopConfig
  split
  next p d e _ _ _ =>
    split_ifs
    · exact s.executes_deny _
    · refine .of_ports ((s.edits_setStop p _).trans (State.edits_foldl (fun t k => t.edits_levelFlag p _ k) allKinds _)) ?_
      exact State.fold_keeps (fun t => t.ports = s.ports) _ (fun t k h => (t.levelFlag_ports p _ k).trans h) allKinds
        _ rfl
  next => exact s.executes_deny _

theorem State.executes_mainsClose (s : State) : s.Executes (reqMainsClose s).1 := by
  unfold reqMainsClose
  split_ifs with hestop
  · exact s.executes_deny _
  · split
    next => exact s.executes_deny _
    next =>
      exact .of_ports (State.edits_setStopUnit ⟨nofun, fun _ he => absurd he hestop, .inl⟩) rfl

theorem State.executes_mainsOpen (s : State) (q : Port) : s.Executes (reqMainsOpen q s).1 :=
  .of_ports (s.edits_tripMains _) (s.tripMains_runs _).ports

/-- R134: the groups are stopped before the hold stands. -/
theorem State.setHold_stopAll (s : State) (u : StopUnit) (q : Port) :
    ((s.setStopUnit u).notifyAll .gridHold (.port q)).stopAll .hold =
      ((s.notifyAll .gridHold (.port q)).stopAll .hold).setStopUnit u := by
  rw [State.setStopUnit_notifyAll, (blind_stopAll .hold).setStopUnit]

theorem State.executes_gridHoldSet (s : State) (q : Port) : s.Executes (reqGridHoldSet q s).1 := by
  unfold reqGridHoldSet
  dsimp only
  split_ifs
  · exact .refl s
  · have hunit : ((s.notifyAll .gridHold (.port q)).stopAll .hold).stopUnit = s.stopUnit :=
      (State.stopAll_moves _ .hold).stopUnit
    have hports : ((s.notifyAll .gridHold (.port q)).stopAll .hold).ports = s.ports :=
      (State.stopAll_moves _ .hold).runs.ports
    rw [State.setHold_stopAll]
    refine .of_ports (((s.edits_notifyAll _ _).trans (State.edits_stopAll _ .hold)).trans (State.edits_setStopUnit ?_))
      ((State.setStopUnit_ports _ _).trans hports)
    refine ⟨fun hm => .inl ?_, fun hestop he => ?_, fun _ => .inr (State.stopAll_rest _ .hold)⟩
    · rw [hunit]
      exact hm
    · rw [hunit] at hestop
      exact hestop he

theorem State.executes_clearHold (s : State) (q r : Port) : s.Executes (s.clearHold q r).1 := by
  unfold State.clearHold
  dsimp only
  split_ifs with hheld
  · refine .of_ports ((State.edits_setStopUnit (u := { s.stopUnit with hold := s.stopUnit.hold.set r false })
      ⟨.inl, id, fun _ => .inl fun hnone => ?_⟩).trans
      (State.edits_notifyAll _ _ _)) rfl
    rw [hnone] at hheld
    cases r <;> cases hheld
  · exact .refl s

theorem State.executes_gridHoldClear (s : State) (q : Port) (target : Option Byte) :
    s.Executes (reqGridHoldClear q target s).1 := by
  unfold reqGridHoldClear
  split
  · exact s.executes_clearHold q q
  · split
    · exact s.executes_clearHold q _
    · exact s.executes_deny _

theorem State.executes_stopRead (s : State) (point : Byte) : s.Executes (reqStopRead point s).1 := by
  unfold reqStopRead
  split <;> exact .refl s

theorem State.executes_stopStatus (s : State) : s.Executes (reqStopStatus s).1 := .refl s

/-! ## The Notice Unit -/

theorem State.executes_portStatus (s : State) (q : Port) : s.Executes (reqPortStatus q s).1 := .refl s

theorem State.executes_noticeRead (s : State) (q : Port) : s.Executes (reqNoticeRead q s).1 :=
  .of_ports (State.Edit.notice s q (s.notice q).afterRead fun h =>
    ⟨(List.length_drop ..).trans_le ((Nat.sub_le _ _).trans h.size),
      h.distinct.sublist ((List.drop_sublist _ _).map _), fun r hr => h.counts r (List.mem_of_mem_drop hr), h.suppress⟩).edits
    rfl

theorem NoticeSet.Sound.mask {n : NoticeSet} (h : n.Sound) {kinds : BitVec 32} (hkinds : kinds &&& unsuppressible = 0) :
    NoticeSet.Sound { n with suppress := kinds } := by
  have hbit : ∀ i : Nat, unsuppressible.getLsbD i = true → kinds.getLsbD i = false := by
    intro i hi
    have hand := congrArg (BitVec.getLsbD · i) hkinds
    simpa [BitVec.getLsbD_and, hi] using hand
  exact ⟨h.size, h.distinct, h.counts,
    hbit (NoticeKind.code .groupFault - 1) rfl, hbit (NoticeKind.code .runaway - 1) rfl,
    hbit (NoticeKind.code .estop - 1) rfl, hbit (NoticeKind.code .mainsTripped - 1) rfl⟩

theorem State.executes_noticeMask (s : State) (q : Port) (kinds : BitVec 32) :
    s.Executes (reqNoticeMask q kinds s).1 := by
  unfold reqNoticeMask
  split_ifs with hbad
  · exact s.executes_deny _
  · have hkinds : kinds &&& unsuppressible = 0 := not_not.mp fun h => hbad (.inr h)
    exact .of_ports (State.Edit.notice s q { s.notice q with suppress := kinds } fun h => h.mask hkinds).edits rfl

theorem State.executes_warnConfig (s : State) (enables polarity : Byte) :
    s.Executes (reqWarnConfig enables polarity s).1 := by
  unfold reqWarnConfig
  split
  next w _ => exact .of_ports (s.edits_free s.inReset s.now s.choice w) rfl
  next => exact s.executes_deny _

/-! ## The Cue Engine -/

theorem State.executes_setCue {s : State} {c : Cue} (h : s.cue.Sound → c.Sound) : s.Executes (s.setCue c) :=
  .of_ports (State.edits_setCue h) rfl

theorem State.executes_ownerOnly {s : State} {q : Port} {k : Answer} (hk : s.cue.owner = some q → s.Executes k.1) :
    s.Executes (s.ownerOnly q k).1 := by
  unfold State.ownerOnly
  split_ifs with howner
  · exact hk howner
  · exact s.executes_deny _

theorem length_writeEntry (l : List CueEntry) (i : Nat) (e : CueEntry) :
    (writeEntry l i e).length = if i < l.length then l.length else l.length + 1 := by
  unfold writeEntry
  split_ifs <;> simp

theorem State.executes_cueWrite (s : State) (q : Port) (index group action : Byte) (value : Word24) (follow : Byte) :
    s.Executes (reqCueWrite q index group action value follow s).1 := by
  refine State.executes_ownerOnly fun _ => ?_
  split_ifs with hrunning
  · exact s.executes_deny _
  · split
    next g a f _ _ _ =>
      split_ifs with hok
      · refine State.executes_setCue fun h => ⟨?_, ?_, h.owner, h.fired⟩
        · refine h.pointer.trans ?_
          rw [length_writeEntry]
          split_ifs
          · exact le_refl _
          · exact Nat.le_succ _
        · have hcount := h.count
          have hindex := hok.1
          have hlength := hok.2.1
          dsimp only
          rw [length_writeEntry]
          split_ifs <;> omega
      · exact s.executes_deny _
    next => exact s.executes_deny _

theorem Cue.Sound.not_running {c : Cue} (h : c.Sound) (hstate : c.state ≠ .running) : c.firedGroup = none :=
  by_contra fun hfired => hstate (h.fired.mp hfired)

theorem State.executes_cueClear (s : State) (q : Port) : s.Executes (reqCueClear q s).1 := by
  refine State.executes_ownerOnly fun _ => ?_
  split_ifs with hrunning
  · exact s.executes_deny _
  · exact State.executes_setCue fun h => ⟨le_refl 0, Nat.zero_le 64, fun _ => rfl,
      iff_of_false (absurd (h.not_running hrunning)) nofun⟩

theorem State.executes_cueOwn (s : State) (q : Port) : s.Executes (reqCueOwn q s).1 := by
  have htakes : s.Executes (s.setCue { s.cue with owner := some q }) :=
    State.executes_setCue fun h => ⟨h.pointer, h.count, nofun, h.fired⟩
  unfold reqCueOwn
  split
  next => exact htakes
  next =>
    split_ifs
    · exact .refl s
    · split
      · exact htakes
      · exact s.executes_deny _

theorem State.executes_cueDisown (s : State) (q : Port) : s.Executes (reqCueDisown q s).1 :=
  State.executes_ownerOnly fun _ =>
    State.executes_setCue fun h => ⟨h.pointer, h.count, fun _ => rfl, iff_of_false (absurd rfl) nofun⟩

theorem State.executes_cueConfig (s : State) (q : Port) (source mode : Byte) :
    s.Executes (reqCueConfig q source mode s).1 := by
  refine State.executes_ownerOnly fun _ => ?_
  split
  · exact State.executes_setCue fun h => ⟨h.pointer, h.count, h.owner, h.fired⟩
  · exact s.executes_deny _

theorem Cue.Sound.armed {c : Cue} (h : c.Sound) {q : Port} (howner : c.owner = some q) (hstate : c.state ≠ .running)
    {k : Nat} (hk : k ≤ c.list.length) : (c.armed k).Sound := by
  refine ⟨hk, h.count, fun hnone => absurd (howner.symm.trans hnone) nofun,
    iff_of_false (absurd (h.not_running hstate)) ?_⟩
  simp only [Cue.armed]
  split_ifs <;> nofun

theorem State.executes_cueArm (s : State) (q : Port) (start : Option Byte) : s.Executes (reqCueArm q start s).1 := by
  refine State.executes_ownerOnly fun howner => ?_
  split_ifs with hrunning
  · exact s.executes_deny _
  · dsimp only
    split_ifs with hfar
    · exact s.executes_deny _
    · refine State.executes_setCue fun h => h.armed howner hrunning ?_
      cases start with
      | none => exact h.pointer
      | some b => exact not_lt.mp fun hlt => hfar ⟨rfl, hlt⟩

theorem State.executes_cueOff (s : State) (q : Port) : s.Executes (reqCueOff q s).1 :=
  State.executes_ownerOnly fun _ =>
    State.executes_setCue fun h => ⟨h.pointer, h.count, fun _ => rfl, iff_of_false (absurd rfl) nofun⟩

theorem State.edits_goFire {s : State} (hoff : s.cue.state ≠ .off) (hrunning : s.cue.state ≠ .running) :
    s.Edits s.goFire.1 := by
  have hfire := State.edits_fire hoff hrunning
  unfold State.goFire
  split <;> rename_i s1 heq <;> rw [heq] at hfire <;> exact hfire

theorem State.goFire_moves (s : State) : s.MovesTo s.goFire.1 := by
  have hfire := s.fire_moves
  unfold State.goFire
  split <;> rename_i s1 heq <;> rw [heq] at hfire <;> exact hfire

theorem State.edits_goEarly (s : State) : s.Edits s.goEarly := s.edits_notifyOwner _ _

/-- R146 at the end of the list: READY or DONE again. -/
theorem State.edits_cueReadyOrEnd {s : State} (hoff : s.cue.state ≠ .off) (hrunning : s.cue.state ≠ .running) :
    s.Edits s.cueReadyOrEnd :=
  ⟨s.path_cueReadyOrEnd, fun h => (State.cueReadyOrEnd_cue
    ⟨h.pointer, h.count, h.owned hoff, h.not_running hrunning⟩).1, s.cueReadyOrEnd_moves.runs.pending⟩

theorem State.executes_consoleGo (s : State) : s.Executes s.consoleGo.1 := by
  unfold State.consoleGo
  split
  next => exact .refl s
  next hready => exact .of_ports (State.edits_goFire (hready.trans_ne nofun) (hready.trans_ne nofun)) s.goFire_moves.runs.ports
  next => exact .of_ports s.edits_goEarly (s.notifyOwner_moves _ _).runs.ports
  next hstalled =>
    split_ifs
    · exact .of_ports (State.edits_goFire (hstalled.trans_ne nofun) (hstalled.trans_ne nofun)) s.goFire_moves.runs.ports
    · exact .of_ports (State.edits_cueReadyOrEnd (hstalled.trans_ne nofun) (hstalled.trans_ne nofun))
        s.cueReadyOrEnd_moves.runs.ports
  next => exact .refl s

theorem State.executes_cueGo (s : State) (q : Port) : s.Executes (reqCueGo q s).1 := by
  refine State.executes_ownerOnly fun _ => ?_
  split_ifs
  · exact s.executes_consoleGo
  · exact s.executes_deny _

theorem State.executes_cueSkip (s : State) (q : Port) : s.Executes (reqCueSkip q s).1 := by
  refine State.executes_ownerOnly fun _ => ?_
  dsimp only
  by_cases hstate : s.cue.state = .ready ∨ s.cue.state = .stalled
  · have hoff : s.cue.state ≠ .off := by
      rintro h
      simp [h] at hstate
    have hrunning : s.cue.state ≠ .running := by
      rintro h
      simp [h] at hstate
    rw [if_pos hstate]
    have hset : s.Edits (s.setCue { s.cue with
        pointer := if s.cue.pointer < s.cue.list.length then s.cue.pointer + 1 else s.cue.pointer, stall := none }) :=
      State.edits_setCue fun h => by
        refine ⟨?_, h.count, h.owner, h.fired⟩
        dsimp only
        split_ifs with hlt
        · exact hlt
        · exact h.pointer
    exact .of_ports (hset.trans (State.edits_cueReadyOrEnd hoff hrunning)) (State.cueReadyOrEnd_moves _).runs.ports
  · rw [if_neg hstate]
    exact s.executes_deny _

theorem State.executes_cueRead (s : State) (first count : Byte) : s.Executes (reqCueRead first count s).1 := by
  unfold reqCueRead
  split_ifs <;> exact .refl s

/-! ## The CUE line -/

theorem State.edits_lineGo (s : State) : s.Edits s.lineGo := by
  have hset : s.Edits (s.setCue { s.cue with rearm := s.timer Config.rearmTime }) :=
    State.edits_setCue fun h => ⟨h.pointer, h.count, h.owner, h.fired⟩
  unfold State.lineGo
  dsimp only
  split
  next hready => exact hset.trans (State.edits_goFire (hready.trans_ne nofun) (hready.trans_ne nofun))
  next => exact hset.trans (State.edits_goEarly _)
  all_goals exact hset

theorem State.edits_lineChange (s : State) (v : Level) : s.Edits (s.lineChange v) := by
  have hset : s.Edits (s.setCue { s.cue with level := v }) :=
    State.edits_setCue fun h => ⟨h.pointer, h.count, h.owner, h.fired⟩
  unfold State.lineChange
  dsimp only
  split_ifs
  · exact .rfl s
  · exact hset.trans (State.edits_lineGo _)
  · exact hset

theorem State.edits_rearmExpiry (s : State) : s.Edits s.rearmExpiry := by
  have hset : s.Edits (s.setCue { s.cue with rearm := none }) :=
    State.edits_setCue fun h => ⟨h.pointer, h.count, h.owner, h.fired⟩
  unfold State.rearmExpiry
  dsimp only
  split_ifs
  · exact hset.trans (State.edits_lineGo _)
  · exact hset
  · exact .rfl s

end Sys2Proof.Machine
end

section
/-!
Frames and requests: the coding of fields, the requests of Table 10-3 from TYPE and payload and back, and every request
command as the arrival of its frame (O5 to O7).
-/
namespace Sys2Proof.Machine

open Sys2Proof

/-! ## Words and their bytes -/

theorem extractLsb'_append_high {m n : Nat} (x : BitVec m) (y : BitVec n) (a b : Nat) :
    (x ++ y).extractLsb' (n + a) b = x.extractLsb' a b := by
  ext i hi
  simp [BitVec.getLsbD_append, Nat.add_assoc]

theorem extractLsb'_append_low {m n : Nat} (x : BitVec m) (y : BitVec n) {a b : Nat} (h : a + b ≤ n) :
    (x ++ y).extractLsb' a b = y.extractLsb' a b := by
  ext i hi
  have hlow : a + i < n := by omega
  simp [BitVec.getLsbD_append, hlow]

theorem bytes2_word2 (a b : Byte) : bytes2 (word2 a b) = [a, b] := by
  rw [bytes2, word2, extractLsb'_append_high a b 0 8, extractLsb'_append_low a b (by omega),
    BitVec.extractLsb'_eq_self, BitVec.extractLsb'_eq_self]

theorem bytes3_word3 (a b c : Byte) : bytes3 (word3 a b c) = [a, b, c] := by
  rw [bytes3, word3, extractLsb'_append_high (a ++ b) c 8 8, extractLsb'_append_high (a ++ b) c 0 8,
    extractLsb'_append_low _ c (by omega), extractLsb'_append_high a b 0 8, extractLsb'_append_low a b (by omega),
    BitVec.extractLsb'_eq_self, BitVec.extractLsb'_eq_self, BitVec.extractLsb'_eq_self]

theorem bytes4_word4 (a b c d : Byte) : bytes4 (word4 a b c d) = [a, b, c, d] := by
  have hhigh := bytes3_word3 a b c
  rw [bytes3, word3] at hhigh
  rw [bytes4, word4, extractLsb'_append_high (a ++ b ++ c) d 16 8, extractLsb'_append_high (a ++ b ++ c) d 8 8,
    extractLsb'_append_high (a ++ b ++ c) d 0 8, extractLsb'_append_low _ d (by omega), BitVec.extractLsb'_eq_self]
  simpa using hhigh

theorem word2_bytes2 (w : Word16) : word2 (w.extractLsb' 8 8) (w.extractLsb' 0 8) = w := by
  rw [word2, BitVec.extractLsb'_append_extractLsb'_eq_extractLsb' (by omega)]
  exact BitVec.extractLsb'_eq_self

theorem word3_bytes3 (w : Word24) : word3 (w.extractLsb' 16 8) (w.extractLsb' 8 8) (w.extractLsb' 0 8) = w := by
  rw [word3, BitVec.extractLsb'_append_extractLsb'_eq_extractLsb' (by omega),
    BitVec.extractLsb'_append_extractLsb'_eq_extractLsb' (by omega)]
  exact BitVec.extractLsb'_eq_self

theorem word4_bytes4 (w : BitVec 32) :
    word4 (w.extractLsb' 24 8) (w.extractLsb' 16 8) (w.extractLsb' 8 8) (w.extractLsb' 0 8) = w := by
  rw [word4, BitVec.extractLsb'_append_extractLsb'_eq_extractLsb' (by omega),
    BitVec.extractLsb'_append_extractLsb'_eq_extractLsb' (by omega),
    BitVec.extractLsb'_append_extractLsb'_eq_extractLsb' (by omega)]
  exact BitVec.extractLsb'_eq_self

/-! ## Requests from frames -/

/-- The request that a TYPE, TAG and payload on a port carry. -/
structure Carries (i : Instr) (q : Port) (tag typ : Byte) (payload : List Byte) : Prop where
  wellFormed : i.wellFormed = true
  frame : encodeRequest i = some (typ, payload)
  port : requestPort i = some q
  tag : requestTag i = some tag

/-- What Table 10-3 says of a TYPE and payload. -/
def TableGives (q : Port) (tag typ : Byte) (payload : List Byte) : Parsed → Prop
  | .unknown => permittedLengths typ = none
  | .badLength => ∃ lens, permittedLengths typ = some lens ∧ payload.length ∉ lens
  | .request i => Carries i q tag typ payload ∧ ∃ lens, permittedLengths typ = some lens ∧ payload.length ∈ lens

theorem Byte.eq_of_toNat {b : Byte} {n : Nat} (h : b.toNat = n) : b = BitVec.ofNat 8 n := by
  rw [← h, BitVec.ofNat_toNat, BitVec.setWidth_eq]

theorem payload_cons_iff {l : List Byte} {n : Nat} : l.length = n + 1 ↔ ∃ b r, l = b :: r ∧ r.length = n := by
  cases l <;> simp

/-- R162 steps 2 and 3 follow Table 10-3, TYPE by TYPE. -/
theorem parseRequest_gives (q : Port) (tag typ : Byte) (payload : List Byte) :
    TableGives q tag typ payload (parseRequest q typ tag payload) := by
  unfold parseRequest
  split
  case h_49 =>
    change permittedLengths typ = none
    unfold permittedLengths
    split
    case h_49 => rfl
    all_goals contradiction
  all_goals
    rename_i htyp
    obtain rfl := Byte.eq_of_toNat htyp
  case h_18 => -- SET_MEMBERS
    unfold parseSetMembers
    split
    · split_ifs with hlength
      · refine ⟨⟨decide_eq_true hlength, rfl, rfl, rfl⟩, _, rfl, List.mem_range'_1.mpr ⟨Nat.succ_pos _, ?_⟩⟩
        exact Nat.succ_lt_succ (Nat.lt_succ_of_le hlength)
      · refine ⟨_, rfl, fun hmem => hlength ?_⟩
        rw [List.mem_range'_1] at hmem
        exact Nat.le_of_lt_succ (Nat.lt_of_succ_lt_succ hmem.2)
    · exact ⟨_, rfl, nofun⟩
  case h_30 | h_36 | h_44 => -- a request with an optional byte
    simp only [parseMotionRead, parseGridHoldClear, parseCueArm]
    split
    · exact ⟨⟨rfl, rfl, rfl, rfl⟩, _, rfl, .head _⟩
    · exact ⟨⟨rfl, rfl, rfl, rfl⟩, _, rfl, .tail _ (.head _)⟩
    · rename_i hnone hsome
      refine ⟨_, rfl, fun hmem => ?_⟩
      simp [payload_cons_iff] at hmem
      grind
  all_goals -- a request of one length
    simp only [parsePortStatus, parseEnable, parseNoticeRead, parseNoticeMask, parseWarnConfig, parsePatchPoint, parseUnpatch,
      parsePointRead, parseSlotRead, parseBusConfig, parseTare, parseCalWrite, parseCalRead, parseClearLoadAlarm,
      parseSetLoadLimits, parseSetDutyLimit, parseLoadRead, parseClaim, parseRelease, parseTakeover, parseSetBands,
      parseGroupRead, parseMoveTo, parseMoveBy, parseJog, parseStop, parseAckFault, parseSetStopLead,
      parseClearStopFlags, parseSetStopConfig, parseMainsClose, parseMainsOpen, parseGridHoldSet, parseStopRead,
      parseStopStatus, parseCueWrite, parseCueClear, parseCueOwn, parseCueDisown, parseCueConfig, parseCueOff,
      parseCueGo, parseCueSkip, parseCueRead]
    split
    case h_1 =>
      exact ⟨⟨rfl, by simp [encodeRequest, bytes2_word2, bytes3_word3, bytes4_word4], rfl, rfl⟩, _, rfl, .head _⟩
    case h_2 =>
      rename_i hother
      refine ⟨_, rfl, fun hmem => ?_⟩
      simp [payload_cons_iff] at hmem
      simp_all

/-- Table 10-3, from a request to its frame and back. -/
theorem parseRequest_of_carries {i : Instr} {q : Port} {tag typ : Byte} {payload : List Byte}
    (h : Carries i q tag typ payload) : parseRequest q typ tag payload = .request i := by
  obtain ⟨hwf, hframe, hport, htag⟩ := h
  cases i <;> cases hframe <;> cases hport <;> cases htag
  case setMembers => exact if_pos (of_decide_eq_true hwf)
  case motionRead first => cases first <;> rfl
  case gridHoldClear target => cases target <;> rfl
  case cueArm start => cases start <;> rfl
  all_goals
    simp [parseRequest, parsePatchPoint, parseCalWrite, parseSetLoadLimits, parseSetDutyLimit, parseSetBands, parseMoveTo,
      parseMoveBy, parseSetStopLead, parseCueWrite, parseNoticeMask, bytes2, bytes3, bytes4, word2_bytes2, word3_bytes3,
      word4_bytes4] <;> rfl

theorem carries_of_parseRequest {q : Port} {typ tag : Byte} {payload : List Byte} {i : Instr}
    (h : parseRequest q typ tag payload = .request i) : Carries i q tag typ payload := by
  have hgives := parseRequest_gives q tag typ payload
  rw [h] at hgives
  exact hgives.1

/-- Settles O6: the table read TYPE by TYPE, and back request by request. -/
theorem requestFramesRoundTrip : Obligations.RequestFramesRoundTrip := by
  unfold Obligations.RequestFramesRoundTrip
  refine ⟨fun i typ payload q tag hwf hframe hport htag => parseRequest_of_carries ⟨hwf, hframe, hport, htag⟩,
    fun q typ tag payload i h => ?_⟩
  have hcarries := carries_of_parseRequest h
  exact ⟨hcarries.wellFormed, hcarries.frame, hcarries.port, hcarries.tag⟩

/-! ## Request commands as frames -/

/-- Log 7: a request command is the arrival of its frame. -/
theorem exec_request {i : Instr} {q : Port} (h : requestPort i = some q) :
    ∃ typ tag payload, encodeRequest i = some (typ, payload) ∧ requestTag i = some tag ∧
      ∀ s, exec i s = .next (s.request q typ tag (runRequest i)) := by
  cases i <;> cases h <;> exact ⟨_, _, _, rfl, rfl, fun _ => rfl⟩

theorem permittedLengths_le {typ : Byte} {lens : List Nat} (h : permittedLengths typ = some lens) {n : Nat} (hn : n ∈ lens) :
    n ≤ 60 := by
  unfold permittedLengths at h
  split at h <;> cases h <;> simp at hn <;> omega

/-- R154, R156: a valid frame is taken by a receiver that is HUNTING again. -/
theorem exec_validFrame {s : State} (hrun : s.inReset = false) (q : Port) (typ tag : Byte) {payload : List Byte}
    (hlength : payload.length ≤ 60) :
    exec (.frameReceived q typ tag payload (frameCrc typ tag payload)) s =
      .next ((s.setPort q (s.port q).hunt).request q typ tag (runParsed (parseRequest q typ tag payload))) := by
  have hrun' : (s.setPort q (s.port q).hunt).inReset = false := hrun
  change Host.Outcome.next (s.event fun t => t.frameReceived q typ tag payload _) = _
  rw [State.request, State.event_running hrun, State.event_running hrun', State.frameReceived,
    if_neg (show ¬ Config.maxPayload < payload.length from Nat.not_lt.mpr hlength), State.frameChecked, if_pos rfl]

/-- Settles O7: the valid frame is read back as the request, which is taken as its command is. -/
theorem validFrameRunsItsRequest : Obligations.ValidFrameRunsItsRequest := by
  unfold Obligations.ValidFrameRunsItsRequest
  intro i typ payload q tag s hwf hframe hport htag hrun
  have hcarries : Carries i q tag typ payload := ⟨hwf, hframe, hport, htag⟩
  have hparse := parseRequest_of_carries hcarries
  have hgives := parseRequest_gives q tag typ payload
  rw [hparse] at hgives
  obtain ⟨-, lens, hlens, hmem⟩ := hgives
  obtain ⟨typ', tag', payload', hframe', htag', hexec⟩ := exec_request hport
  cases hframe.symm.trans hframe'
  cases htag.symm.trans htag'
  refine ⟨_, exec_validFrame hrun q typ tag (permittedLengths_le hlens hmem), ?_⟩
  rw [hparse]
  exact hexec _

end Sys2Proof.Machine
end

section
/-!
Field coding and checks (O5), requests turned away (O10), the receiver (O8, O9).
-/
namespace Sys2Proof.Machine

open Sys2Proof

/-! ## Identifiers and their bytes -/

theorem pointByte_toNat (p : PointId) : (pointByte p).toNat = p.val + 1 := by
  simp only [pointByte, byte, BitVec.toNat_ofNat]
  omega

theorem groupByte_toNat (g : GroupId) : (groupByte g).toNat = g.val + 1 := by
  simp only [groupByte, byte, BitVec.toNat_ofNat]
  omega

theorem pointOf_eq_some_iff (b : Byte) (p : PointId) : pointOf b = some p ↔ b = pointByte p :=
  ⟨eq_pointByte_of_pointOf, fun h => h ▸ pointOf_pointByte p⟩

theorem groupOf_eq_some_iff (b : Byte) (g : GroupId) : groupOf b = some g ↔ b = groupByte g := by
  rw [BitVec.toNat_inj.symm, groupByte_toNat]
  unfold groupOf
  split_ifs with hrange
  · rw [Option.some.injEq, Fin.ext_iff]
    dsimp only
    omega
  · refine iff_of_false nofun fun h => hrange ?_
    omega

theorem portOf_eq_some_iff (b : Byte) (q : Port) : portOf b = some q ↔ b = portByte q := by
  unfold portOf
  constructor
  · intro h
    split at h <;> cases h <;> exact Byte.eq_of_toNat ‹_›
  · rintro rfl
    cases q <;> rfl

/-! ## The two checks -/

theorem crc16Bit_of_lt {x : Word16} (h : x.toNat < 2 ^ 15) : (crc16Bit x).toNat = 2 * x.toNat := by
  have hmsb : x.msb = false := BitVec.msb_eq_false_iff_two_mul_lt.mpr (by omega)
  rw [crc16Bit, hmsb]
  simp only [Bool.false_eq_true, if_false, BitVec.toNat_shiftLeft]
  rw [Nat.shiftLeft_eq]
  omega

/-- Shifts that push no one out of the register only multiply. -/
theorem crc16Bit_iterate {x : Word16} {k : Nat} (h : 2 ^ k * x.toNat < 2 ^ 16) :
    (crc16Bit^[k] x).toNat = 2 ^ k * x.toNat := by
  induction k with
  | zero => simp
  | succ k ih =>
    have hdouble : 2 ^ (k + 1) * x.toNat = 2 * (2 ^ k * x.toNat) := by ring
    have hk := ih (by omega)
    rw [Function.iterate_succ_apply', crc16Bit_of_lt (by omega), hk, hdouble]

theorem crc16Byte_eq (reg : Word16) (b : Byte) : crc16Byte reg b = crc16Bit^[8] (reg ^^^ word2 b 0) := rfl

theorem word2_zero_toNat (l : Byte) : (word2 0 l).toNat = l.toNat := by
  exact (BitVec.toNat_append 0#8 l).trans (by simp)

theorem word2_toNat_zero (h : Byte) : (word2 h 0).toNat = 256 * h.toNat := by
  refine (BitVec.toNat_append h 0#8).trans ?_
  simp [Nat.shiftLeft_eq, Nat.mul_comm]

theorem word2_xor_high (h l : Byte) : word2 h l ^^^ word2 h 0 = word2 0 l := by
  rw [word2, word2, BitVec.xor_append, BitVec.xor_self]
  exact congrArg (word2 0) BitVec.xor_zero

/-- R176: the check of a message, taken as the two next bytes, leaves the register at 0. -/
theorem crc16Byte_residue (h l : Byte) : crc16Byte (crc16Byte (word2 h l) h) l = 0 := by
  have hl := l.isLt
  have hfirst : crc16Byte (word2 h l) h = word2 l 0 := by
    apply BitVec.eq_of_toNat_eq
    rw [crc16Byte_eq, word2_xor_high, crc16Bit_iterate (by rw [word2_zero_toNat]; omega), word2_zero_toNat,
      word2_toNat_zero]
    rfl
  apply BitVec.eq_of_toNat_eq
  rw [hfirst, crc16Byte_eq, BitVec.xor_self, crc16Bit_iterate (by simp)]
  rfl

theorem crc16_residue (m : List Byte) : crc16 (m ++ bytes2 (crc16 m)) = 0 := by
  have hresidue := crc16Byte_residue ((crc16 m).extractLsb' 8 8) ((crc16 m).extractLsb' 0 8)
  rw [word2_bytes2] at hresidue
  rw [crc16, List.foldl_append]
  exact hresidue

theorem slotCheck_residue (m : List Byte) : slotCheck (m ++ [slotCheck m]) = 0 := by
  rw [slotCheck, List.foldl_append]
  change crc8Byte (slotCheck m) (slotCheck m) = 0
  rw [crc8Byte, BitVec.xor_self]
  rfl

theorem DownField.byte0_eq (f : DownField) : f.byte0 = BitVec.ofNat 8
    ((match f.command with
      | .stop => 0
      | .up => 1
      | .down => 2) + (if f.epochMark then 4 else 0) + 8 * match f.mark with
      | .idle => 0
      | .phase0 => 1
      | .phase1 => 2
      | .fourth => 3) := by
  rw [DownField.byte0]
  cases f.command <;> cases f.epochMark <;> cases f.mark <;> decide

/-- Settles O5: the codings by cases on what is coded, and the checks by what eight shifts do to a register whose high
byte has been taken out. -/
theorem fieldsAndChecksAreCoded : Obligations.FieldsAndChecksAreCoded := by
  unfold Obligations.FieldsAndChecksAreCoded
  refine ⟨fun s q hrun => ⟨fun hnone => ?_, fun f rest hhead => ?_⟩, fun f => ?_,
    ⟨pointOf_eq_some_iff, groupOf_eq_some_iff, portOf_eq_some_iff, pointByte_toNat, groupByte_toNat, bytes2_word2,
      bytes3_word3, bytes4_word4⟩, by decide +kernel, by decide +kernel, crc16_residue, slotCheck_residue⟩
  · simp only [State.txLine, hrun, hnone, Bool.false_eq_true, if_false]
  · simp only [State.txLine, hrun, hhead, Bool.false_eq_true, if_false]
    rfl
  · exact congrArg (fun b => [b, f.octet, slotCheck [b, f.octet]]) f.byte0_eq

/-! ## Requests that are not executed -/

/-- A request that is refused by its TYPE or LEN is answered so. -/
theorem State.request_refuses {s : State} {q : Port} (h : s.Takes q) (typ tag : Byte) (r : Reject) :
    s.request q typ tag (fun t => t.deny r) = s.answered q (typ ||| 0x80) tag (Reply.no r).bytes :=
  State.request_answers h typ tag _ (.no r) rfl

theorem State.Takes.hunt {s : State} {q : Port} (h : s.Takes q) : (s.setPort q (s.port q).hunt).Takes q := by
  refine ⟨h.running, h.quiet, ?_, ?_⟩ <;> rw [State.setPort_port, if_pos rfl]
  · exact h.linkUp
  · exact h.room

/-- R162 step 1 on an UP link. -/
theorem State.request_full {s : State} {q : Port} (hrun : s.inReset = false) (hquiet : s.Quiet)
    (hlink : (s.port q).link = .up) (hfull : 6 ≤ (s.port q).tx.length) (typ tag : Byte) (body : State → Answer) :
    s.request q typ tag body = s.setPort q { s.port q with
      linkTimer := some (s.now + 1000), overruns := min ((s.port q).overruns + 1) 65535 } := by
  have harrives : s.frameArrives q = s.touched q := by
    rw [State.frameArrives, if_neg (by rw [hlink]; nofun)]
    rfl
  have hport : (s.touched q).port q = { s.port q with linkTimer := some (s.now + 1000) } := by
    rw [State.touched_port, if_pos rfl]
  rw [State.request, State.event_running hrun, harrives, State.intake, if_neg (by rw [hport]; exact Nat.not_lt.mpr hfull),
    hport, State.touched, State.setPort_setPort]
  exact State.flushPrompts_quiet hquiet

/-- Settles O10: what Table 10-3 gives for the frame, the full queue's branch of R162, and R164. -/
theorem requestsAreAnsweredTurnedAwayAndSent : Obligations.RequestsAreAnsweredTurnedAwayAndSent := by
  unfold Obligations.RequestsAreAnsweredTurnedAwayAndSent
  refine ⟨fun s q typ tag payload htakes hlength => ?_, fun i q s hport hrun hquiet hlink hfull => ?_,
    fun s q hrun hquiet => ?_⟩
  · have hgives := parseRequest_gives q tag typ payload
    rw [exec_validFrame htakes.running q typ tag hlength]
    refine ⟨fun hnone => ?_, fun lens hlens hmem => ?_⟩
    · cases hparse : parseRequest q typ tag payload <;> rw [hparse] at hgives
      case unknown => exact congrArg _ (State.request_refuses htakes.hunt typ tag .unknownType)
      case badLength =>
        obtain ⟨lens, hlens, -⟩ := hgives
        cases hnone.symm.trans hlens
      case request =>
        obtain ⟨-, lens, hlens, -⟩ := hgives
        cases hnone.symm.trans hlens
    · cases hparse : parseRequest q typ tag payload <;> rw [hparse] at hgives
      case unknown => cases hlens.symm.trans hgives
      case badLength => exact congrArg _ (State.request_refuses htakes.hunt typ tag .badLength)
      case request =>
        obtain ⟨-, lens', hlens', hmem'⟩ := hgives
        cases hlens.symm.trans hlens'
        exact absurd hmem' hmem
  · obtain ⟨typ, tag, payload, -, -, hexec⟩ := exec_request hport
    rw [hexec, State.request_full hrun hquiet hlink hfull]
  · change Host.Outcome.next (s.event fun t => t.txEnd q) = _
    rw [State.event_running hrun, State.flushPrompts_quiet (show (s.txEnd q).Quiet from hquiet), State.txEnd,
      List.drop_one]

/-! ## The receiver -/

theorem exec_rxCharacter_eq {s : State} (hrun : s.inReset = false) (q : Port) (c : Byte) (stop : Bool) :
    exec (.rxCharacter q c stop) s = .next (s.character q c stop).flushPrompts :=
  congrArg Host.Outcome.next (State.event_running hrun fun t => t.character q c stop)

/-- An event that leaves a port's record, with no prompt raised. -/
theorem flushPrompts_setPort {s : State} (hquiet : s.Quiet) (q : Port) (r : PortRec) :
    (s.setPort q r).flushPrompts = s.setPort q r := State.flushPrompts_quiet hquiet

/-- R154: a character that neither abandons nor completes the frame joins it. -/
theorem exec_rxCharacter_joins {s : State} {q : Port} (hrun : s.inReset = false) (hquiet : s.Quiet) {bytes : List Byte}
    (hframe : (s.port q).receiver = .inFrame bytes) {c : Byte} (hlong : lenTooLong (bytes ++ [c]) = false)
    (hpart : completeFrame (bytes ++ [c]) = none) : exec (.rxCharacter q c true) s =
      .next (s.setPort q { s.port q with receiver := .inFrame (bytes ++ [c]), gapTimer := some (s.now + 20) }) := by
  rw [exec_rxCharacter_eq hrun]
  simp only [State.character, hframe, if_true, State.assemble, hlong, Bool.false_eq_true, if_false, hpart]
  rw [flushPrompts_setPort hquiet]
  rfl

/-- R155: what abandons a frame. -/
theorem exec_rxCharacter_abandons {s : State} {q : Port} (hrun : s.inReset = false) (hquiet : s.Quiet)
    {bytes : List Byte} (hframe : (s.port q).receiver = .inFrame bytes) {c : Byte} {stop : Bool}
    (habandons : stop = true → lenTooLong (bytes ++ [c]) = true) : exec (.rxCharacter q c stop) s =
      .next (s.setPort q { s.port q with
        receiver := .hunting, gapTimer := none, errors := min ((s.port q).errors + 1) 65535 }) := by
  rw [exec_rxCharacter_eq hrun]
  cases stop with
  | false =>
    simp only [State.character, hframe, Bool.false_eq_true, if_false]
    exact congrArg _ (flushPrompts_setPort hquiet q _)
  | true =>
    simp only [State.character, hframe, if_true, State.assemble, habandons rfl]
    exact congrArg _ (flushPrompts_setPort hquiet q _)

theorem completeFrame_of_short {sync len : Byte} {rest : List Byte} (h : rest.length < len.toNat + 4) :
    completeFrame (sync :: len :: rest) = none := by
  unfold completeFrame
  split
  next hcons =>
    cases hcons
    simp only [List.length_cons] at h
    exact if_neg (by omega)
  next => rfl

/-- The characters of a frame so far neither abandon it nor complete it. -/
theorem lenTooLong_of_long {sync len b : Byte} {rest : List Byte} : lenTooLong (sync :: len :: b :: rest) = false := rfl

/-- Settles O9: the receiver's branches, one by one. -/
theorem receiverAssemblesAbandonsAndCounts : Obligations.ReceiverAssemblesAbandonsAndCounts := by
  unfold Obligations.ReceiverAssemblesAbandonsAndCounts
  intro s q hrun hquiet
  refine ⟨fun c stop hhunt hno => ?_, fun hhunt => ?_, fun c sync hframe hlen => ?_, fun c sync len rest hframe hlen => ?_,
    fun c sync hframe hlen => ?_, fun c bytes hframe => ?_, fun d htimer hdue => ?_, fun typ tag payload crc hlen hcrc => ?_⟩
  · have hnot : ¬ (c = 0xA5 ∧ stop = true) := by
      rintro ⟨hc, hstop⟩
      rcases hno with hne | hfalse
      · exact hne hc
      · exact nomatch hstop.symm.trans hfalse
    rw [exec_rxCharacter_eq hrun]
    simp only [State.character, hhunt, if_neg hnot]
    exact congrArg _ (State.flushPrompts_quiet hquiet)
  · rw [exec_rxCharacter_eq hrun]
    simp only [State.character, hhunt, and_self, if_true]
    exact congrArg _ (flushPrompts_setPort hquiet q _)
  · exact exec_rxCharacter_joins hrun hquiet hframe (decide_eq_false (Nat.not_lt.mpr hlen)) rfl
  · refine exec_rxCharacter_joins hrun hquiet hframe ?_ ?_
    · cases rest <;> rfl
    · refine completeFrame_of_short ?_
      have hlonger : (rest ++ [c]).length = rest.length + 1 := by simp
      exact hlonger.trans_lt (by omega)
  · exact exec_rxCharacter_abandons hrun hquiet hframe fun _ => decide_eq_true hlen
  · exact exec_rxCharacter_abandons hrun hquiet hframe nofun
  · change Host.Outcome.next (s.event fun t => t.gapExpiry q) = _
    have hexpired : s.due (s.port q).gapTimer = true := by
      rw [htimer]
      exact decide_eq_true hdue
    rw [State.event_running hrun, State.gapExpiry, if_pos hexpired, flushPrompts_setPort hquiet]
    rfl
  · change Host.Outcome.next (s.event fun t => t.frameReceived q typ tag payload crc) = _
    rw [State.event_running hrun, State.frameReceived, if_neg (show ¬ Config.maxPayload < _ from Nat.not_lt.mpr hlen),
      State.frameChecked, if_neg hcrc, State.setPort_setPort, State.setPort_port, if_pos rfl,
      flushPrompts_setPort hquiet]
    rfl

/-- A receiver that is assembling a frame. -/
def State.assembling (s : State) (q : Port) (bytes : List Byte) : State :=
  s.setPort q { s.port q with receiver := .inFrame bytes, gapTimer := some (s.now + 20) }

theorem State.assembling_receiver (s : State) (q : Port) (bytes : List Byte) :
    ((s.assembling q bytes).port q).receiver = .inFrame bytes := by
  rw [State.assembling, State.setPort_port, if_pos rfl]

theorem exec_assembling_joins {s : State} (q : Port) (hrun : s.inReset = false) (hquiet : s.Quiet) {bytes : List Byte}
    {c : Byte} (hlong : lenTooLong (bytes ++ [c]) = false) (hpart : completeFrame (bytes ++ [c]) = none) :
    exec (.rxCharacter q c true) (s.assembling q bytes) = .next (s.assembling q (bytes ++ [c])) := by
  rw [exec_rxCharacter_joins (s := s.assembling q bytes) hrun hquiet (s.assembling_receiver q bytes) hlong hpart,
    State.assembling, State.setPort_setPort, State.setPort_port, if_pos rfl]
  rfl

/-- The character that completes a frame has it taken. -/
theorem exec_assembling_completes {s : State} (q : Port) (hrun : s.inReset = false) {bytes : List Byte} {c : Byte}
    {typ tag : Byte} {payload : List Byte} {crc : Word16} (hlength : payload.length ≤ 60)
    (hlong : lenTooLong (bytes ++ [c]) = false)
    (hfull : completeFrame (bytes ++ [c]) = some (typ, tag, payload, crc)) :
    exec (.rxCharacter q c true) (s.assembling q bytes) = exec (.frameReceived q typ tag payload crc) s := by
  have hshort : ¬ Config.maxPayload < payload.length := Nat.not_lt.mpr hlength
  have hreceived : (s.assembling q bytes).frameReceived q typ tag payload crc = s.frameReceived q typ tag payload crc := by
    rw [State.frameReceived, State.frameReceived, if_neg hshort, if_neg hshort, State.assembling, State.setPort_setPort,
      State.setPort_port, if_pos rfl]
    rfl
  rw [exec_rxCharacter_eq (s := s.assembling q bytes) hrun]
  simp only [State.character, s.assembling_receiver q bytes, if_true, State.assemble, hlong, Bool.false_eq_true, if_false,
    hfull, hreceived]
  exact congrArg Host.Outcome.next (State.event_running hrun fun t => t.frameReceived q typ tag payload crc).symm

/-- The bytes of a frame (Table 10-2) with a CRC of its own. -/
def frameBytes (typ tag : Byte) (payload : List Byte) (crc : Word16) : List Byte :=
  0xA5 :: BitVec.ofNat 8 payload.length :: typ :: tag :: (payload ++ bytes2 crc)

theorem length_toNat {payload : List Byte} (h : payload.length ≤ 60) :
    (BitVec.ofNat 8 payload.length).toNat = payload.length :=
  Nat.mod_eq_of_lt (by omega)

theorem completeFrame_frameBytes (typ tag : Byte) {payload : List Byte} (crc : Word16) (h : payload.length ≤ 60) :
    completeFrame (frameBytes typ tag payload crc) = some (typ, tag, payload, crc) := by
  have hlen := length_toNat h
  have hword : word2 (crc.extractLsb' 8 8) (crc.extractLsb' 0 8) = crc := word2_bytes2 crc
  simp [completeFrame, frameBytes, hlen, bytes2, hword]

/-- A proper part of a frame, LEN included, neither abandons nor completes it. -/
theorem prefix_open {typ tag : Byte} {payload bytes rest : List Byte} {crc : Word16} (h : payload.length ≤ 60)
    (hparts : bytes ++ rest = frameBytes typ tag payload crc) (htwo : 2 ≤ bytes.length) (hrest : rest ≠ []) :
    lenTooLong bytes = false ∧ completeFrame bytes = none := by
  have hpos := List.length_pos_iff.mpr hrest
  have htotal := congrArg List.length hparts
  match bytes, htwo with
  | sync :: len :: more, _ =>
    obtain ⟨rfl, rfl, -⟩ : sync = 0xA5 ∧ len = BitVec.ofNat 8 payload.length ∧ _ := by
      simpa [frameBytes] using hparts
    have hlen := length_toNat h
    simp only [frameBytes, bytes2, List.length_append, List.length_cons, List.length_nil] at htotal
    refine ⟨?_, completeFrame_of_short (by omega)⟩
    cases more with
    | nil => exact decide_eq_false (by rw [hlen]; exact Nat.not_lt.mpr h)
    | cons => rfl

theorem lenTooLong_frameBytes (typ tag : Byte) (payload : List Byte) (crc : Word16) :
    lenTooLong (frameBytes typ tag payload crc) = false := rfl

/-- R154 from the first character on: what is still to come completes the frame. -/
theorem execAll_assembling {s : State} (q : Port) (hrun : s.inReset = false) (hquiet : s.Quiet) {typ tag : Byte}
    {payload : List Byte} {crc : Word16} (h : payload.length ≤ 60) (rest : List Byte) :
    ∀ bytes, bytes ≠ [] → bytes ++ rest = frameBytes typ tag payload crc → rest ≠ [] →
      execAll (rest.map fun c => .rxCharacter q c true) (s.assembling q bytes) =
        exec (.frameReceived q typ tag payload crc) s := by
  induction rest with
  | nil => exact fun _ _ _ hne => absurd rfl hne
  | cons c rest ih =>
    intro bytes hne hparts _
    have hparts' : (bytes ++ [c]) ++ rest = frameBytes typ tag payload crc := by rw [← hparts, List.append_assoc]; rfl
    rw [List.map_cons, execAll]
    by_cases hlast : rest = []
    · subst hlast
      rw [List.append_nil] at hparts'
      rw [exec_assembling_completes q hrun h (by rw [hparts']; rfl)
        (by rw [hparts']; exact completeFrame_frameBytes typ tag crc h)]
      cases exec (.frameReceived q typ tag payload crc) s <;> rfl
    · have htwo : 2 ≤ (bytes ++ [c]).length := by
        have := List.length_pos_iff.mpr hne
        rw [List.length_append, List.length_singleton]
        omega
      obtain ⟨hlong, hpart⟩ := prefix_open h hparts' htwo hlast
      rw [exec_assembling_joins q hrun hquiet hlong hpart]
      exact ih (bytes ++ [c]) (by simp) hparts' hlast

/-- Settles O8, by induction on the characters still to come. -/
theorem charactersAssembleAFrame : Obligations.CharactersAssembleAFrame := by
  unfold Obligations.CharactersAssembleAFrame
  intro s q typ tag payload crc hrun hquiet hhunt hlength
  have hsync : exec (.rxCharacter q 0xA5 true) s = .next (s.assembling q [0xA5]) := by
    rw [exec_rxCharacter_eq hrun]
    simp only [State.character, hhunt, and_self, if_true]
    exact congrArg _ (flushPrompts_setPort hquiet q _)
  change execAll ((frameBytes typ tag payload crc).map _) s = _
  rw [frameBytes, List.map_cons, execAll, hsync]
  exact execAll_assembling q hrun hquiet hlength _ [0xA5] (by simp) rfl (by simp)

end Sys2Proof.Machine
end

section
/-!
Every command as edits, and the laws that every step keeps (O50 to O60).
-/
namespace Sys2Proof.Machine

/-! ## Requests and frames -/

theorem State.executes_enable {s : State} {q : Port} (hlink : (s.port q).link = .up) (level : Byte) :
    s.Executes (reqEnable q level s).1 := by
  unfold reqEnable
  split
  · exact State.executes_setEnable hlink _
  · exact s.executes_deny _

/-- The execution of any request is a sequence of edits. -/
theorem State.executes_runRequest {i : Instr} {s : State}
    (hlink : ∀ q, requestPort i = some q → (s.port q).link = .up) : s.Executes (runRequest i s).1 := by
  cases i with
  | patchPoint => exact s.executes_patchPoint ..
  | unpatch => exact s.executes_unpatch _
  | pointRead => exact s.executes_pointRead _
  | slotRead => exact s.executes_slotRead _ _
  | busConfig => exact s.executes_busConfig _ _
  | tare => exact s.executes_tare _ _
  | calWrite => exact s.executes_calWrite ..
  | calRead => exact s.executes_calRead _ _
  | clearLoadAlarm => exact s.executes_clearLoadAlarm _
  | setLoadLimits => exact s.executes_setLoadLimits ..
  | setDutyLimit => exact s.executes_setDutyLimit _ _
  | loadRead => exact s.executes_loadRead _
  | setMembers => exact s.executes_setMembers _ _ _
  | claim => exact s.executes_claim _ _
  | release => exact s.executes_release _ _
  | takeover => exact s.executes_takeover _ _
  | setBands => exact s.executes_setBands ..
  | groupRead => exact s.executes_groupRead _
  | moveTo => exact s.executes_moveTo _ _ _
  | moveBy => exact s.executes_moveBy _ _ _
  | jog => exact s.executes_jog _ _ _
  | stop => exact s.executes_stop _
  | ackFault => exact s.executes_ackFault _ _
  | setStopLead => exact s.executes_setStopLead _ _
  | motionRead => exact s.executes_motionRead _ _
  | clearStopFlags => exact s.executes_clearStopFlags _
  | setStopConfig => exact s.executes_setStopConfig _ _ _
  | mainsClose => exact s.executes_mainsClose
  | mainsOpen => exact s.executes_mainsOpen _
  | gridHoldSet => exact s.executes_gridHoldSet _
  | gridHoldClear => exact s.executes_gridHoldClear _ _
  | stopRead => exact s.executes_stopRead _
  | stopStatus => exact s.executes_stopStatus
  | cueWrite => exact s.executes_cueWrite ..
  | cueClear => exact s.executes_cueClear _
  | cueOwn => exact s.executes_cueOwn _
  | cueDisown => exact s.executes_cueDisown _
  | cueConfig => exact s.executes_cueConfig _ _ _
  | cueArm => exact s.executes_cueArm _ _
  | cueOff => exact s.executes_cueOff _
  | cueGo => exact s.executes_cueGo _
  | cueSkip => exact s.executes_cueSkip _
  | cueRead => exact s.executes_cueRead _ _
  | enable q _ level => exact State.executes_enable (hlink q rfl) level
  | portStatus => exact s.executes_portStatus _
  | noticeRead => exact s.executes_noticeRead _
  | noticeMask => exact s.executes_noticeMask _ _
  | warnConfig => exact s.executes_warnConfig _ _
  | _ => exact s.executes_deny _

theorem State.executes_runParsed {s : State} {q : Port} (hlink : (s.port q).link = .up) (typ tag : Byte)
    (payload : List Byte) : s.Executes (runParsed (parseRequest q typ tag payload) s).1 := by
  cases hparse : parseRequest q typ tag payload with
  | unknown => exact s.executes_deny _
  | badLength => exact s.executes_deny _
  | request i =>
    refine State.executes_runRequest fun x hx => ?_
    cases (carries_of_parseRequest hparse).port.symm.trans hx
    exact hlink

theorem State.edits_frameChecked (s : State) (q : Port) (typ tag : Byte) (payload : List Byte) (crc : Word16) :
    s.Edits (s.frameChecked q typ tag payload crc) := by
  unfold State.frameChecked
  split_ifs
  · exact s.edits_taken q typ tag fun t hlink => State.executes_runParsed hlink typ tag payload
  · exact s.edits_countError q

theorem State.edits_frameReceived (s : State) (q : Port) (typ tag : Byte) (payload : List Byte) (crc : Word16) :
    s.Edits (s.frameReceived q typ tag payload crc) := by
  unfold State.frameReceived
  split_ifs
  · exact s.edits_abandon q
  · exact (s.edits_hunt q).trans (State.edits_frameChecked _ q typ tag payload crc)

theorem State.edits_assemble (s : State) (q : Port) (bytes : List Byte) : s.Edits (s.assemble q bytes) := by
  unfold State.assemble
  split_ifs
  · exact s.edits_abandon q
  · split
    · exact s.edits_frameReceived q _ _ _ _
    · exact s.edits_inFrame q bytes _

theorem State.edits_character (s : State) (q : Port) (c : Byte) (stopBit : Bool) :
    s.Edits (s.character q c stopBit) := by
  unfold State.character
  split
  · split_ifs
    · exact s.edits_inFrame q [c] _
    · exact .rfl s
  · split_ifs
    · exact s.edits_assemble q _
    · exact s.edits_abandon q

/-! ## Commands -/

theorem State.edits_ite {s t : State} (c : Prop) [Decidable c] (h : c → s.Edits t) : s.Edits (if c then t else s) := by
  split_ifs with hc
  · exact h hc
  · exact .rfl s

theorem State.edits_estopRises (s : State) :
    s.Edits ((s.setStopUnit { s.stopUnit with estop := false }).notifyAll .estopClear .none) :=
  (State.edits_setStopUnit (u := { s.stopUnit with estop := false })
    ⟨.inl, fun _ (h : false = true) => (nomatch h), .inl⟩).trans (State.edits_notifyAll _ _ _)

theorem State.quiet_reset : State.reset.Quiet := fun q => by rw [State.reset_notice]; rfl

/-- A command that RESETn has no part in. -/
def IsEvent (i : Instr) : Prop := i ≠ .resetnAssert ∧ ∀ e c, i ≠ .resetnRelease e c

/-- R1: every command but RESETn's own is an event. -/
theorem exec_event {i : Instr} (h : IsEvent i) :
    ∃ f : State → State, (∀ t : State, t.Edits (f t)) ∧ ∀ s, exec i s = .next (s.event f) := by
  rcases hport : requestPort i with _ | q
  case some =>
    obtain ⟨typ, tag, payload, -, -, hexec⟩ := exec_request hport
    refine ⟨_, fun t => t.edits_taken q typ tag fun u hlink => State.executes_runRequest fun x hx => ?_, hexec⟩
    cases hport.symm.trans hx
    exact hlink
  case none =>
    cases i <;> cases hport
    case resetnAssert => exact absurd rfl h.1
    case resetnRelease e c => exact absurd rfl (h.2 e c)
    case frame => exact ⟨_, fun t => t.edits_newFrame, fun _ => rfl⟩
    case upstreamField n f => exact ⟨_, fun t => t.edits_upstream n f, fun _ => rfl⟩
    case slotJoining n => exact ⟨_, fun t => State.edits_ite _ fun hc => State.edits_slotJoins hc.1, fun _ => rfl⟩
    case slotLost n => exact ⟨_, fun t => State.edits_ite _ fun _ => t.edits_slotIsLost n, fun _ => rfl⟩
    case serviceJobEnd e => exact ⟨_, fun t => State.edits_ite _ fun _ => t.edits_endJob e, fun _ => rfl⟩
    case serviceJobStart => exact ⟨_, fun t => t.edits_startJob, fun _ => rfl⟩
    case serviceTimeout => exact ⟨_, fun t => t.edits_serviceOverdue, fun _ => rfl⟩
    case runTimerExpiry p => exact ⟨_, fun t => t.edits_runTimerExpiry p, fun _ => rfl⟩
    case runawayAllowanceExpiry p => exact ⟨_, fun t => t.edits_allowanceExpiry p, fun _ => rfl⟩
    case estopAssertion =>
      refine ⟨_, fun t => ?_, fun _ => rfl⟩
      split_ifs
      · exact .rfl t
      · exact t.edits_estopFalls
    case estopRelease => exact ⟨_, fun t => State.edits_ite _ fun _ => t.edits_estopRises, fun _ => rfl⟩
    case cueLineChange v => exact ⟨_, fun t => t.edits_lineChange v, fun _ => rfl⟩
    case rearmTimerExpiry => exact ⟨_, fun t => t.edits_rearmExpiry, fun _ => rfl⟩
    case rxCharacter q c b => exact ⟨_, fun t => t.edits_character q c b, fun _ => rfl⟩
    case gapTimerExpiry q => exact ⟨_, fun t => t.edits_gapExpiry q, fun _ => rfl⟩
    case frameReceived q typ tag payload crc =>
      exact ⟨_, fun t => t.edits_frameReceived q typ tag payload crc, fun _ => rfl⟩
    case txFrameEnd q => exact ⟨_, fun t => t.edits_txEnd q, fun _ => rfl⟩
    case linkTimerExpiry q => exact ⟨_, fun t => t.edits_linkExpiry q, fun _ => rfl⟩
    case enableWindowExpiry q => exact ⟨_, fun t => t.edits_enableExpiry q, fun _ => rfl⟩

/-- Either RESETn's own command, or an event. -/
theorem reset_or_event (i : Instr) :
    i = .resetnAssert ∨ (∃ e c, i = .resetnRelease e c) ∨ IsEvent i := by
  by_cases hassert : i = .resetnAssert
  · exact .inl hassert
  · by_cases hrelease : ∃ e c, i = .resetnRelease e c
    · exact .inr (.inl hrelease)
    · exact .inr (.inr ⟨hassert, fun e c h => hrelease ⟨e, c, h⟩⟩)

theorem Cue.Sound.reset (line : Level) : (Cue.reset line).Sound :=
  ⟨le_refl 0, Nat.zero_le 64, fun _ => rfl, ⟨fun h => absurd rfl h, nofun⟩⟩

/-- R1: the state that a release of RESETn leaves, before the notice of a low ESTOP line. -/
theorem State.edits_released (s : State) (line : Level) (estop : Bool) :
    s.Edits { State.reset with
      pending := s.pending, cue := Cue.reset line, stopUnit := { State.reset.stopUnit with estop := estop } } :=
  ⟨.single (.release s s.pending line estop), fun _ => .reset line, rfl⟩

/-- Every command is a sequence of edits, and leaves no prompt standing where none stood before. -/
theorem exec_edits (i : Instr) (s : State) :
    ∃ t, exec i s = .next t ∧ s.Edits t ∧ (s.Quiet → t.Quiet) := by
  rcases reset_or_event i with rfl | ⟨e, c, rfl⟩ | hevent
  · exact ⟨_, rfl, s.edits_free true s.now s.choice s.warn, id⟩
  · change ∃ t, execResetnRelease e c s = .next t ∧ _
    unfold execResetnRelease
    split_ifs
    · cases e with
      | high =>
        exact ⟨_, rfl, s.edits_released c false, fun _ => State.quiet_reset⟩
      | low =>
        exact ⟨_, rfl, ((s.edits_released c true).trans (State.edits_notifyAll _ _ _)).trans
          (State.edits_flushPrompts _), fun _ => State.flushPrompts_calm _⟩
    · exact ⟨s, rfl, .rfl s, id⟩
  · obtain ⟨f, hf, hexec⟩ := exec_event hevent
    refine ⟨_, hexec s, State.edits_event (hf s), fun hquiet => ?_⟩
    unfold State.event
    split_ifs
    · exact hquiet
    · exact State.flushPrompts_calm _

/-- Every step is a sequence of edits that keeps the Cue Engine's law, and leaves no prompt standing where none stood
before. -/
theorem step_path {s t : State} (h : step s = .next t) :
    s.Path t ∧ (s.cue.Sound → t.cue.Sound) ∧ (s.Quiet → t.Quiet) := by
  unfold step at h
  split at h
  · cases h
    exact ⟨.refl, id, id⟩
  · next i rest _ =>
    obtain ⟨u, hu, hedits, hquiet⟩ := exec_edits i { s with pending := rest }
    cases h.symm.trans hu
    exact ⟨.head (.free s rest s.inReset s.now s.choice s.cue s.warn) hedits.path, hedits.cue, hquiet⟩

/-! ## The laws -/

/-- A law that every edit keeps is kept by every step. -/
theorem step_keeps {P : State → Prop} (hedit : ∀ s t : State, P s → s.Edit t → P t) {s t : State} (hs : P s)
    (h : step s = .next t) : P t :=
  (step_path h).1.keeps hedit hs

/-- Settles O50: every edit keeps the ports' law. -/
theorem everyStepKeepsPortsSound : Obligations.EveryStepKeepsPortsSound := by
  unfold Obligations.EveryStepKeepsPortsSound
  exact fun s t hs => step_keeps (fun _ _ => State.PortsSound.edit) hs

/-- Settles O51: every edit keeps each set's own law, and every event acts on the prompts at its end. -/
theorem everyStepKeepsNoticesSound : Obligations.EveryStepKeepsNoticesSound := by
  unfold Obligations.EveryStepKeepsNoticesSound
  intro s t hs h
  obtain ⟨hkept, hquiet⟩ := s.noticesSound_iff.mp hs
  exact t.noticesSound_iff.mpr ⟨step_keeps (fun _ _ => State.NoticesKept.edit) hkept h, (step_path h).2.2 hquiet⟩

/-- Settles O52: every edit keeps binding, and with binding the counters. -/
theorem everyStepKeepsBindingSound : Obligations.EveryStepKeepsBindingSound := by
  unfold Obligations.EveryStepKeepsBindingSound
  exact fun s t hbinding hcounters => step_keeps (P := fun u => u.BindingSound ∧ u.CountersSound)
    (fun _ _ hu hedit => ⟨hu.1.edit hedit, hu.2.edit hu.1 hedit⟩) ⟨hbinding, hcounters⟩

/-- Settles O53: every edit keeps membership. -/
theorem everyStepKeepsMembershipSound : Obligations.EveryStepKeepsMembershipSound := by
  unfold Obligations.EveryStepKeepsMembershipSound
  exact fun s t hs => step_keeps (fun _ _ => State.MembershipSound.edit) hs

/-- Settles O54: every edit keeps the law of the stop inputs, the hold and the mains. -/
theorem everyStepKeepsPowerSound : Obligations.EveryStepKeepsPowerSound := by
  unfold Obligations.EveryStepKeepsPowerSound
  exact fun s t hs => step_keeps (fun _ _ => State.PowerSound.edit) hs

/-- Settles O55: every edit keeps the law of who drives a MOVING group. -/
theorem everyStepKeepsDriveSound : Obligations.EveryStepKeepsDriveSound := by
  unfold Obligations.EveryStepKeepsDriveSound
  exact fun s t hs => step_keeps (fun _ _ => State.DriveSound.edit) hs

/-- Settles O56: every command leaves the Cue Engine within its law, though a chain of cues breaks it on its way. -/
theorem everyStepKeepsCueSound : Obligations.EveryStepKeepsCueSound := by
  unfold Obligations.EveryStepKeepsCueSound
  exact fun s t hs h => t.cueSound_iff.mpr ((step_path h).2.1 (s.cueSound_iff.mp hs))

/-- Settles O57: every edit keeps membership, and with membership the targets. -/
theorem everyStepKeepsTargetsSound : Obligations.EveryStepKeepsTargetsSound := by
  unfold Obligations.EveryStepKeepsTargetsSound
  exact fun s t hmembers htargets h => (step_keeps (P := fun u => u.MembershipSound ∧ u.TargetsSound)
    (fun _ _ hu hedit => ⟨hu.1.edit hedit, hu.2.edit hu.1 hedit⟩) ⟨hmembers, htargets⟩ h).2

/-- Settles O58: every edit keeps the load parts' law. -/
theorem everyStepKeepsLoadsSound : Obligations.EveryStepKeepsLoadsSound := by
  unfold Obligations.EveryStepKeepsLoadsSound
  exact fun s t hs => step_keeps (fun _ _ => State.LoadsSound.edit) hs

/-- Settles O59: every edit keeps binding, and with binding the join list and the port service queue. -/
theorem everyStepKeepsServiceSound : Obligations.EveryStepKeepsServiceSound := by
  unfold Obligations.EveryStepKeepsServiceSound
  exact fun s t hbinding hservice h => (step_keeps (P := fun u => u.BindingSound ∧ u.ServiceSound)
    (fun _ _ hu hedit => ⟨hu.1.edit hedit, hu.2.edit hu.1 hedit⟩) ⟨hbinding, hservice⟩ h).2

/-- Settles O60: every edit keeps the ranges. -/
theorem everyStepKeepsRangesSound : Obligations.EveryStepKeepsRangesSound := by
  unfold Obligations.EveryStepKeepsRangesSound
  exact fun s t hs => step_keeps (fun _ _ => State.RangesSound.edit) hs

end Sys2Proof.Machine
end

section
/-!
The machine: the queue, RESETn and the values at reset (O1 to O4).
-/
namespace Sys2Proof.Machine

open Sys2Proof

/-- Settles O1: the queue's front is the one the step takes. -/
theorem stepRunsTheFrontCommand : Obligations.StepRunsTheFrontCommand := by
  unfold Obligations.StepRunsTheFrontCommand
  intro s c rest h
  rw [step, h]

/-- Settles O2: every command is a sequence of edits, which leave the queue. -/
theorem everyCommandAnswersAndKeepsTheQueue : Obligations.EveryCommandAnswersAndKeepsTheQueue := by
  unfold Obligations.EveryCommandAnswersAndKeepsTheQueue
  refine ⟨fun c s => ?_, fun s h => by rw [step, h]⟩
  obtain ⟨t, hexec, hedits, -⟩ := exec_edits c s
  exact ⟨t, hexec, hedits.pending⟩

/-- A set with one record of a notice that has no subject. -/
def NoticeSet.one (k : NoticeKind) : NoticeSet := { NoticeSet.reset with records := [⟨k, .none, 1⟩] }

theorem NoticeSet.record_reset : NoticeSet.reset.record .estop .none = { NoticeSet.one .estop with prompt := true } := rfl

/-- R1: the notice of a low ESTOP line finds empty sets, and links that are DOWN. -/
theorem State.notifyAll_flushPrompts_of_reset {s : State} (hnotices : ∀ q, s.notice q = .reset)
    (hlinks : ∀ q, (s.port q).link = .down) : (s.notifyAll .estop .none).flushPrompts =
      { s with notices := ⟨.one .estop, .one .estop, .one .estop⟩ } := by
  apply State.ext_parts
  case ports =>
    intro q
    rw [State.flushPrompts_port, State.notifyAll_port, hlinks q, if_neg (fun h => nomatch h.2.1)]
    rfl
  case notices =>
    intro q
    rw [State.flushPrompts_notice, State.notifyAll_notice, hnotices q, NoticeSet.record_reset]
    cases q <;> rfl
  all_goals simp [State.point, State.slot, State.group, State.notifyAll]

theorem execResetnRelease_low {s : State} (h : s.inReset = true) (v : Level) :
    exec (.resetnRelease .low v) s =
      .next { State.reset with
        pending := s.pending
        cue := { State.reset.cue with level := v }
        stopUnit := { State.reset.stopUnit with estop := true }
        notices := ⟨.one .estop, .one .estop, .one .estop⟩ } := by
  change execResetnRelease .low v s = _
  rw [execResetnRelease, if_pos h]
  exact congrArg Host.Outcome.next (State.notifyAll_flushPrompts_of_reset (State.released_notice s.pending v true)
    fun q => by rw [State.setStopUnit_port]; exact congrArg PortRec.link (State.reset_port q))

/-- Settles O3: while RESETn is asserted no event runs, and its release writes the reset state. -/
theorem resetAssertionAndRelease : Obligations.ResetAssertionAndRelease := by
  unfold Obligations.ResetAssertionAndRelease
  refine ⟨fun s => rfl, fun s h => ⟨?_, ?_, fun q => ?_, fun c hc => ?_⟩, fun s v h => ?_, fun s v h =>
    execResetnRelease_low h v⟩
  · simp [State.mainsLine, h]
  · simp [State.warnLine, h]
  · simp [State.txLine, h]
  · rcases reset_or_event c with rfl | ⟨e, v, rfl⟩ | hevent
    · obtain ⟨pending, inReset⟩ := s
      cases h
      rfl
    · exact absurd rfl (hc e v)
    · obtain ⟨f, -, hexec⟩ := exec_event hevent
      rw [hexec, State.event_inReset h]
  · change execResetnRelease .high v s = _
    rw [execResetnRelease, if_pos h]
    rfl

theorem StopPart.reset_flags (k : StopKind) : PointRec.reset.stop.flags.get k = false ∧
    PointRec.reset.stop.modes.get k = .level ∧ PointRec.reset.stop.masks.get k = true := by
  cases k <;> exact ⟨rfl, rfl, rfl⟩

/-- Settles O4: the tables hold one reset record each, and the laws hold as they do after any release. -/
theorem resetLeavesTheStatedValues : Obligations.ResetLeavesTheStatedValues := by
  unfold Obligations.ResetLeavesTheStatedValues
  refine ⟨⟨fun p => ?_, fun n => ?_, fun g => ?_, fun q => ?_, fun q => ?_, by and_intros <;> rfl⟩, .released [] .low false,
    (State.noticesSound_iff _).mpr ⟨.released [] .low false, State.quiet_reset⟩, .released [] .low false,
    .released [] .low false, .released [] .low false, .released [] .low false, .released [] .low false,
    (State.cueSound_iff _).mpr (.reset .low), .released [] .low false, .released [] .low false, .released [] .low false,
    .released [] .low false⟩
  · rw [State.reset_point]
    refine ⟨rfl, rfl, rfl, rfl, rfl, rfl, rfl, rfl, rfl, rfl, rfl, rfl, rfl, rfl, rfl, rfl, rfl, rfl, rfl, rfl, rfl, rfl,
      rfl, rfl, StopPart.reset_flags, rfl⟩
  · rw [State.reset_slot]
    and_intros <;> rfl
  · rw [State.reset_group]
    and_intros <;> rfl
  · rw [State.reset_port]
    and_intros <;> rfl
  · rw [State.reset_notice]
    and_intros <;> rfl

end Sys2Proof.Machine
end

section
/-!
Notices (O14), BUS_CONFIG (O20), the effective command (O21) and the limited travel (O37).
-/
namespace Sys2Proof.Machine

open Sys2Proof

/-! ## Notices (R165, R168, R169) -/

theorem NoticeSet.stands_eq_false_iff {n : NoticeSet} {k : NoticeKind} {u : Subject} :
    n.stands k u = false ↔ ∀ r ∈ n.records, ¬ (r.kind = k ∧ r.subject = u) := by
  simp [NoticeSet.stands]

/-- R168's count leaves records of another kind or subject. -/
theorem map_count_of_other {k : NoticeKind} {u : Subject} {l : List NoticeRec}
    (h : ∀ r ∈ l, ¬ (r.kind = k ∧ r.subject = u)) :
    l.map (fun r => if r.kind = k ∧ r.subject = u then { r with count := min (r.count + 1) 255 } else r) = l :=
  (List.map_congr_left fun r hr => if_neg (h r hr)).trans (List.map_id l)

/-- R168's count: the one standing record of the kind and subject, among others that are not. -/
theorem NoticeSet.record_standing {n : NoticeSet} {k : NoticeKind} {u : Subject} {pre post : List NoticeRec} {c : Nat}
    (hsuppress : n.suppresses k = false) (hrecords : n.records = pre ++ ⟨k, u, c⟩ :: post)
    (hothers : ∀ r ∈ pre ++ post, ¬ (r.kind = k ∧ r.subject = u)) :
    n.record k u = { n with records := pre ++ ⟨k, u, min (c + 1) 255⟩ :: post } := by
  have hstands : n.stands k u = true := by simp [NoticeSet.stands, hrecords]
  have hpre := map_count_of_other fun r hr => hothers r (List.mem_append_left _ hr)
  have hpost := map_count_of_other fun r hr => hothers r (List.mem_append_right _ hr)
  rw [NoticeSet.record, if_neg (ne_true_of_eq_false hsuppress), if_pos hstands, hrecords, List.map_append, List.map_cons,
    hpre, hpost, if_pos ⟨rfl, rfl⟩]

theorem NoticeSet.record_new {n : NoticeSet} {k : NoticeKind} {u : Subject}
    (hsuppress : n.suppresses k = false) (hnone : ∀ r ∈ n.records, ¬ (r.kind = k ∧ r.subject = u)) :
    n.record k u = if n.records.length < 32 then
      { n with records := n.records ++ [⟨k, u, 1⟩], prompt := n.prompt || decide (n.records = []) }
      else { n with lost := true } := by
  have hempty : n.records.isEmpty = decide (n.records = []) := by cases n.records <;> rfl
  rw [NoticeSet.record, if_neg (ne_true_of_eq_false hsuppress),
    if_neg (ne_true_of_eq_false (NoticeSet.stands_eq_false_iff.mpr hnone)), hempty]
  rfl

/-- Settles O14: the four cases of R168 in their order, and each port's prompt at the event's end. -/
theorem noticesAreRecordedAndPrompted : Obligations.NoticesAreRecordedAndPrompted := by
  unfold Obligations.NoticesAreRecordedAndPrompted
  refine ⟨⟨fun n k u h => if_pos h, fun n k u pre post c => NoticeSet.record_standing,
    fun n k u => NoticeSet.record_new, fun s k u => ⟨s.notifyAll_notice k u, rfl⟩⟩, fun s =>
    ⟨s.flushPrompts_port, s.flushPrompts_notice, s.flushPrompts_fields⟩⟩

/-! ## BUS_CONFIG (R33) -/

theorem State.anyActive_iff (s : State) :
    s.anyActive = true ↔ ∃ g, (s.group g).state = .moving ∨ (s.group g).state = .stopping := by
  simp [State.anyActive, allGroups, GroupState.active_iff]

theorem map_eq_ofFn {α β : Type} {n : Nat} (v : Vector α n) (f : α → β) :
    v.map f = Vector.ofFn fun i : Fin n => f v[i] := by
  ext i hi
  simp

theorem State.configureBus_eq (s : State) (e : Epoch) (m : AcceptMode) : s.configureBus e m = { s with
    bus := { s.bus with epoch := e, mode := m, framePos := 0, restart := true }
    points := Vector.ofFn fun p => { s.point p with
      load := { (s.point p).load with window := [], discardNext := true, value := .absent } }
    slots := Vector.ofFn fun n => { s.slot n with candidate := none } } := by
  rw [State.configureBus, map_eq_ofFn, map_eq_ofFn]
  rfl

theorem epochOf_code {b : Byte} {e : Epoch} (h : epochOf b = some e) : e.code = b := by
  unfold epochOf at h
  split at h <;> cases h <;> exact (Byte.eq_of_toNat ‹_›).symm

theorem acceptModeOf_code {b : Byte} {m : AcceptMode} (h : acceptModeOf b = some m) : m.code = b := by
  unfold acceptModeOf at h
  split at h <;> cases h <;> exact (Byte.eq_of_toNat ‹_›).symm

/-- Settles O20: the two arguments, the groups, and then one write of the bus and both tables. -/
theorem busConfigRestartsTheBus : Obligations.BusConfigRestartsTheBus := by
  unfold Obligations.BusConfigRestartsTheBus
  intro s q tag e m htakes
  refine ⟨fun hbad => ?arguments, fun E M he hm => ⟨fun hactive => ?busy, fun hidle => ?accepted⟩⟩
  case arguments =>
    refine congrArg Host.Outcome.next (State.request_denies htakes 0x14 tag _ .badArgument ?_)
    rcases hbad with hbad | hbad
    · rw [reqBusConfig, hbad]
    · rw [reqBusConfig, hbad]
      cases epochOf e <;> rfl
  case busy =>
    refine congrArg Host.Outcome.next (State.request_denies htakes 0x14 tag _ .busy ?_)
    rw [reqBusConfig, he, hm]
    exact if_pos ((s.touched q).anyActive_iff.mpr hactive)
  case accepted =>
    refine congrArg Host.Outcome.next ((State.request_calm htakes 0x14 tag _ (s.configureBus E M) (.ok [e, m])
      htakes.quiet ?_).trans (congrArg (State.answered · q 0x94 tag [0, e, m]) (s.configureBus_eq E M)))
    have hbusy : (s.touched q).anyActive ≠ true := fun h => by
      obtain ⟨g, hg⟩ := (s.touched q).anyActive_iff.mp h
      exact hg.elim (hidle g).1 (hidle g).2
    simp only [reqBusConfig, he, hm, if_neg hbusy, epochOf_code he, acceptModeOf_code hm]
    rfl

/-! ## The effective command (R31) -/

theorem StopPart.blocks_up (t : StopPart) : t.blocks .up = false ↔ ∀ k : StopKind, k = .upper ∨ k = .thermal →
    t.flags.get k = true → t.masks.get k = false := by
  rw [StopPart.blocks, List.any_eq_false]
  refine ⟨fun h k hk hflag => ?_, fun h k _ => ?_⟩
  · have := h k (by cases k <;> simp [allKinds])
    rcases hk with rfl | rfl <;> simp_all [StopKind.blocks]
  · cases k <;> simp_all [StopKind.blocks]

theorem StopPart.blocks_down (t : StopPart) : t.blocks .down = false ↔
    ∀ k : StopKind, k = .lower ∨ k = .slack ∨ k = .thermal → t.flags.get k = true → t.masks.get k = false := by
  rw [StopPart.blocks, List.any_eq_false]
  refine ⟨fun h k hk hflag => ?_, fun h k _ => ?_⟩
  · have := h k (by cases k <;> simp [allKinds])
    rcases hk with rfl | rfl | rfl <;> simp_all [StopKind.blocks]
  · cases k <;> simp_all [StopKind.blocks]

theorem Dir.command_ne_stop (d : Dir) : d.command ≠ .stop := by cases d <;> nofun

theorem Dir.command_inj {d e : Dir} : d.command = e.command ↔ d = e := by
  cases d <;> cases e <;> simp [Dir.command]

theorem GroupRec.member_eq_some {r : GroupRec} (hdistinct : (r.members.map Member.point).Nodup) {m : Member}
    (hm : m ∈ r.members) : r.member m.point = some m := by
  rw [GroupRec.member]
  cases hfind : r.members.find? fun x => x.point == m.point with
  | none => exact absurd (beq_self_eq_true m.point) (List.find?_eq_none.mp hfind m hm)
  | some x =>
    have hpoint : x.point = m.point := by simpa using List.find?_some hfind
    rw [List.inj_on_of_nodup_map hdistinct (List.mem_of_find?_eq_some hfind) hm hpoint]

/-- R87: the requested command is a direction exactly for a member in RUN of a MOVING group that travels so. -/
theorem State.requested_iff {s : State} (hmembers : s.MembershipSound) (p : PointId) (d : Dir) :
    s.requested p = d.command ↔ ∃ g m, (s.group g).state = .moving ∧ (s.group g).dir = d ∧ m ∈ (s.group g).members ∧
      m.point = p ∧ m.state = .run ∧ (s.point p).group = some g := by
  constructor
  · intro h
    unfold State.requested at h
    split at h
    next => exact absurd h.symm d.command_ne_stop
    next g hgroup =>
      split_ifs at h with hmoving
      · split at h
        next m hmember =>
          split_ifs at h with hrun
          · obtain ⟨hm, hpoint⟩ := GroupRec.member_mem hmember
            exact ⟨g, m, hmoving, Dir.command_inj.mp h, hm, hpoint, hrun, hgroup⟩
          · exact absurd h.symm d.command_ne_stop
        next => exact absurd h.symm d.command_ne_stop
      · exact absurd h.symm d.command_ne_stop
  · rintro ⟨g, m, hmoving, hdir, hm, rfl, hrun, hgroup⟩
    simp only [State.requested, hgroup, if_pos hmoving, GroupRec.member_eq_some (hmembers.distinct g) hm, if_pos hrun,
      hdir]

theorem State.effective_iff (s : State) (n : SlotId) (d : Dir) : s.effective n = d.command ↔
    ∃ p, (s.slot n).state = .bound ∧ (s.slot n).point = some p ∧ s.stopUnit.mains = .closed ∧
      s.requested p = d.command ∧ (s.point p).stop.blocks d = false := by
  constructor
  · intro h
    unfold State.effective at h
    split at h
    next p hstate hpoint =>
      refine ⟨p, hstate, hpoint, ?_⟩
      by_cases hmains : s.stopUnit.mains = .closed
      · refine ⟨hmains, ?_⟩
        rw [if_pos hmains] at h
        split at h
        next => exact absurd h.symm d.command_ne_stop
        all_goals
          next hrequested =>
            split_ifs at h with hblocks
            · exact absurd h.symm d.command_ne_stop
            · cases d <;> cases h
              exact ⟨hrequested, eq_false_of_ne_true hblocks⟩
      · rw [if_neg hmains] at h
        exact absurd h.symm d.command_ne_stop
    next => exact absurd h.symm d.command_ne_stop
  · rintro ⟨p, hstate, hpoint, hmains, hrequested, hblocks⟩
    simp only [State.effective, hstate, hpoint, if_pos hmains, hrequested]
    cases d <;> exact if_neg (ne_true_of_eq_false hblocks)

/-- Settles O21: the slot's point, the request of its member, and the flags that block it. -/
theorem effectiveCommandLaw : Obligations.EffectiveCommandLaw := by
  unfold Obligations.EffectiveCommandLaw
  intro s n d hmembers
  have hblocks : ∀ p, (s.point p).stop.blocks d = false ↔ match d with
      | .up => ∀ k : StopKind, k = .upper ∨ k = .thermal →
        (s.point p).stop.flags.get k = true → (s.point p).stop.masks.get k = false
      | .down => ∀ k : StopKind, k = .lower ∨ k = .slack ∨ k = .thermal →
        (s.point p).stop.flags.get k = true → (s.point p).stop.masks.get k = false := fun p => by
    cases d
    · exact (s.point p).stop.blocks_up
    · exact (s.point p).stop.blocks_down
  rw [State.effective_iff]
  constructor
  · rintro ⟨p, hstate, hpoint, hmains, hrequested, hfree⟩
    obtain ⟨g, m, hmoving, hdir, hm, hmp, hrun, hgroup⟩ := (State.requested_iff hmembers p d).mp hrequested
    exact ⟨p, g, m, hstate, hpoint, hmains, hmoving, hdir, hm, hmp, hrun, hgroup, (hblocks p).mp hfree⟩
  · rintro ⟨p, g, m, hstate, hpoint, hmains, hmoving, hdir, hm, hmp, hrun, hgroup, hfree⟩
    exact ⟨p, hstate, hpoint, hmains, (State.requested_iff hmembers p d).mpr
      ⟨g, m, hmoving, hdir, hm, hmp, hrun, hgroup⟩, (hblocks p).mpr hfree⟩

/-! ## The limited travel (R92) -/

theorem foldl_min_spec {α : Type} (f : α → Int) (l : List α) (d : Int) :
    let x := l.foldl (fun a p => min a (f p)) d
    x ≤ d ∧ (∀ p ∈ l, x ≤ f p) ∧ ∀ y, y ≤ d → (∀ p ∈ l, y ≤ f p) → y ≤ x := by
  induction l generalizing d with
  | nil => exact ⟨le_refl d, fun _ h => (nomatch h), fun _ h _ => h⟩
  | cons p l ih =>
    obtain ⟨hle, hall, hmax⟩ := ih (min d (f p))
    refine ⟨hle.trans (min_le_left _ _), fun x hx => ?_, fun y hy hys => ?_⟩
    · rcases List.mem_cons.mp hx with rfl | hx
      · exact hle.trans (min_le_right _ _)
      · exact hall x hx
    · exact hmax y (le_min hy (hys p List.mem_cons_self)) fun x hx => hys x (List.mem_cons_of_mem p hx)

theorem foldl_max_spec {α : Type} (f : α → Int) (l : List α) (d : Int) :
    let x := l.foldl (fun a p => max a (f p)) d
    d ≤ x ∧ (∀ p ∈ l, f p ≤ x) ∧ ∀ y, d ≤ y → (∀ p ∈ l, f p ≤ y) → x ≤ y := by
  induction l generalizing d with
  | nil => exact ⟨le_refl d, fun _ h => (nomatch h), fun _ h _ => h⟩
  | cons p l ih =>
    obtain ⟨hle, hall, hmin⟩ := ih (max d (f p))
    refine ⟨(le_max_left _ _).trans hle, fun x hx => ?_, fun y hy hys => ?_⟩
    · rcases List.mem_cons.mp hx with rfl | hx
      · exact (le_max_right _ _).trans hle
      · exact hall x hx
    · exact hmin y (max_le hy (hys p List.mem_cons_self)) fun x hx => hys x (List.mem_cons_of_mem p hx)

/-- R92's first step: the travel to the first soft limit met in the direction of D. -/
def State.nearTravel (s : State) (g : GroupId) (d : Int) : Int :=
  if 0 < d then ((s.group g).members.map Member.point).foldl
    (fun a p => min a ((s.point p).softMax - (s.pos p).getD 0)) d
  else ((s.group g).members.map Member.point).foldl (fun a p => max a ((s.point p).softMin - (s.pos p).getD 0)) d

/-- A travel that leaves a point between its soft limits. -/
def State.Within (s : State) (p : PointId) (d : Int) : Prop :=
  (s.point p).softMin ≤ (s.pos p).getD 0 + d ∧ (s.pos p).getD 0 + d ≤ (s.point p).softMax

theorem State.targetsFit_iff {s : State} {g : GroupId} (hpos : ∀ m ∈ (s.group g).members, s.pos m.point ≠ none) (d : Int) :
    s.TargetsFit g d ↔ ∀ p ∈ (s.group g).members.map Member.point, s.Within p d := by
  simp only [State.TargetsFit, List.forall_mem_map, State.Within]
  refine forall₂_congr fun m hm => ?_
  obtain ⟨x, hx⟩ := Option.ne_none_iff_exists'.mp (hpos m hm)
  simp [hx]

open scoped Classical in
/-- R92's second step: a near travel is kept when it has D's direction and leaves every target within its limits. -/
theorem State.clampTravel_eq {s : State} {g : GroupId} (hpos : ∀ m ∈ (s.group g).members, s.pos m.point ≠ none)
    (d : Int) : dirOf (s.nearTravel g d) = dirOf d ∧ s.TargetsFit g (s.nearTravel g d) ∧
      s.clampTravel g d = s.nearTravel g d ∨
    ¬ (dirOf (s.nearTravel g d) = dirOf d ∧ s.TargetsFit g (s.nearTravel g d)) ∧ s.clampTravel g d = 0 := by
  have hall : ∀ e : Int, (((s.group g).members.map Member.point).all fun p => decide ((s.point p).softMin ≤
      (s.pos p).getD 0 + e ∧ (s.pos p).getD 0 + e ≤ (s.point p).softMax)) = true ↔ s.TargetsFit g e := fun e => by
    rw [State.targetsFit_iff hpos, List.all_eq_true]
    simp only [decide_eq_true_eq, State.Within]
  have hclamp : s.clampTravel g d = if s.TargetsFit g (if dirOf (s.nearTravel g d) = dirOf d then s.nearTravel g d else 0)
      then (if dirOf (s.nearTravel g d) = dirOf d then s.nearTravel g d else 0) else 0 := if_congr (hall _) rfl rfl
  by_cases hdir : dirOf (s.nearTravel g d) = dirOf d
  · rw [if_pos hdir] at hclamp
    by_cases hfit : s.TargetsFit g (s.nearTravel g d)
    · exact .inl ⟨hdir, hfit, hclamp.trans (if_pos hfit)⟩
    · exact .inr ⟨fun h => hfit h.2, hclamp.trans (if_neg hfit)⟩
  · rw [if_neg hdir, ite_self] at hclamp
    exact .inr ⟨fun h => hdir h.1, hclamp⟩

theorem dirOf_of_pos {d : Int} (h : 0 < d) : dirOf d = some .up := if_pos h

theorem dirOf_of_neg {d : Int} (h : d < 0) : dirOf d = some .down := (if_neg h.not_gt).trans (if_pos h)

theorem pos_of_dirOf {d : Int} (h : dirOf d = some .up) : 0 < d := by
  unfold dirOf at h
  split_ifs at h with hup hdown
  · exact hup
  · cases h

theorem neg_of_dirOf {d : Int} (h : dirOf d = some .down) : d < 0 := by
  unfold dirOf at h
  split_ifs at h with hup hdown
  · cases h
  · exact hdown

/-- Every travel up to D that fits stays short of the near travel, which then fits too. -/
theorem State.nearTravel_up {s : State} {g : GroupId} (hpos : ∀ m ∈ (s.group g).members, s.pos m.point ≠ none) {d : Int}
    (hd : 0 < d) : s.nearTravel g d ≤ d ∧
      ∀ f, f ≤ d → s.TargetsFit g f → f ≤ s.nearTravel g d ∧ s.TargetsFit g (s.nearTravel g d) := by
  obtain ⟨hle, hall, hmax⟩ := foldl_min_spec (fun p => (s.point p).softMax - (s.pos p).getD 0)
    ((s.group g).members.map Member.point) d
  rw [State.nearTravel, if_pos hd]
  refine ⟨hle, fun f hf hfit => ?_⟩
  rw [State.targetsFit_iff hpos] at hfit ⊢
  have hnear := hmax f hf fun p hp => by have := (hfit p hp).2; omega
  refine ⟨hnear, fun p hp => ⟨?_, ?_⟩⟩
  · exact (hfit p hp).1.trans (by omega)
  · have := hall p hp
    omega

theorem State.nearTravel_down {s : State} {g : GroupId} (hpos : ∀ m ∈ (s.group g).members, s.pos m.point ≠ none)
    {d : Int} (hd : d < 0) : d ≤ s.nearTravel g d ∧
      ∀ f, d ≤ f → s.TargetsFit g f → s.nearTravel g d ≤ f ∧ s.TargetsFit g (s.nearTravel g d) := by
  obtain ⟨hle, hall, hmin⟩ := foldl_max_spec (fun p => (s.point p).softMin - (s.pos p).getD 0)
    ((s.group g).members.map Member.point) d
  rw [State.nearTravel, if_neg hd.not_gt]
  refine ⟨hle, fun f hf hfit => ?_⟩
  rw [State.targetsFit_iff hpos] at hfit ⊢
  have hnear := hmin f hf fun p hp => by have := (hfit p hp).1; omega
  refine ⟨hnear, fun p hp => ⟨?_, ?_⟩⟩
  · have := hall p hp
    omega
  · exact le_trans (by omega) (hfit p hp).2

/-- Settles O37: the near travel is the furthest that may fit, and the limited travel is it or 0. -/
theorem travelIsLimitedToTheSoftLimits : Obligations.TravelIsLimitedToTheSoftLimits := by
  unfold Obligations.TravelIsLimitedToTheSoftLimits
  intro s g d hd _ hpos
  have heq := State.clampTravel_eq hpos d
  rcases lt_or_gt_of_ne hd with hdown | hup
  · obtain ⟨hle, hnear⟩ := State.nearTravel_down hpos hdown
    rw [dirOf_of_neg hdown] at heq
    refine ⟨fun hfit => ?_, fun hne => ?_, fun hne f _ hf hfit => ?_⟩
    · obtain ⟨hge, hfit'⟩ := hnear d le_rfl hfit
      have hsame : s.nearTravel g d = d := le_antisymm hge hle
      rw [hsame, dirOf_of_neg hdown] at heq
      exact heq.elim (fun h => h.2.2) fun h => absurd ⟨rfl, hfit⟩ h.1
    · rcases heq with ⟨hdir, hfit, hclamp⟩ | ⟨_, hclamp⟩
      · rw [hclamp]
        exact ⟨hfit, fun h => absurd h hdown.not_gt, fun _ => ⟨neg_of_dirOf hdir, hle⟩⟩
      · exact absurd hclamp hne
    · obtain ⟨hlt, hge⟩ := hf hdown
      obtain ⟨hnear', hfit'⟩ := hnear f hge hfit
      rcases heq with ⟨_, _, hclamp⟩ | ⟨hnot, hclamp⟩
      · omega
      · exact hnot ⟨dirOf_of_neg (by omega), hfit'⟩
  · obtain ⟨hle, hnear⟩ := State.nearTravel_up hpos hup
    rw [dirOf_of_pos hup] at heq
    refine ⟨fun hfit => ?_, fun hne => ?_, fun hne f hf _ hfit => ?_⟩
    · obtain ⟨hge, hfit'⟩ := hnear d le_rfl hfit
      have hsame : s.nearTravel g d = d := le_antisymm hle hge
      rw [hsame, dirOf_of_pos hup] at heq
      exact heq.elim (fun h => h.2.2) fun h => absurd ⟨rfl, hfit⟩ h.1
    · rcases heq with ⟨hdir, hfit, hclamp⟩ | ⟨_, hclamp⟩
      · rw [hclamp]
        exact ⟨hfit, fun _ => ⟨pos_of_dirOf hdir, hle⟩, fun h => absurd h hup.not_gt⟩
      · exact absurd hclamp hne
    · obtain ⟨hlt, hge⟩ := hf hup
      obtain ⟨hnear', hfit'⟩ := hnear f hge hfit
      rcases heq with ⟨_, _, hclamp⟩ | ⟨hnot, hclamp⟩
      · omega
      · exact hnot ⟨dirOf_of_pos (by omega), hfit'⟩

end Sys2Proof.Machine
end

section
/-!
The reads (O17).
-/
namespace Sys2Proof.Machine

open Sys2Proof

/-! ## Points and slots -/

theorem exec_pointRead {s : State} {q : Port} (h : s.Takes q) (tag : Byte) {b : Byte} {p : PointId} (hb : pointOf b = some p) :
    exec (.pointRead q tag b) s = .next (s.answered q 0x92 tag (0 :: ((s.point p).directoryBytes ++ optPos (s.pos p) ++
      loadBytes (s.point p).load.value ++ [optGroup (s.point p).group, flagsByte (s.point p).stop]))) :=
  congrArg Host.Outcome.next (State.request_answers h 0x12 tag _ (.ok _) (by simp only [reqPointRead, hb]; rfl))

theorem exec_loadRead {s : State} {q : Port} (h : s.Takes q) (tag : Byte) {b : Byte} {p : PointId} (hb : pointOf b = some p) :
    exec (.loadRead q tag b) s = .next (s.answered q 0xA6 tag (0 :: (s.point p).load.bytes)) :=
  congrArg Host.Outcome.next (State.request_answers h 0x26 tag _ (.ok _) (by simp only [reqLoadRead, hb]; rfl))

theorem exec_stopRead {s : State} {q : Port} (h : s.Takes q) (tag : Byte) {b : Byte} {p : PointId} (hb : pointOf b = some p) :
    exec (.stopRead q tag b) s = .next (s.answered q 0xD6 tag
      (0 :: ([flagsByte (s.point p).stop, modesByte (s.point p).stop.modes, masksByte (s.point p).stop.masks,
        indicationByte (s.accepted p), boolByte (s.point p).lastRun.isSome] ++ nat2 (s.sinceRun p)))) :=
  congrArg Host.Outcome.next (State.request_answers h 0x56 tag _ (.ok _) (by simp only [reqStopRead, hb]; rfl))

/-- R19, R67, R136: a read of a point that there is none of. -/
theorem exec_pointReads_refused {s : State} {q : Port} (h : s.Takes q) (tag : Byte) {b : Byte} (hb : pointOf b = none) :
    exec (.pointRead q tag b) s = .next (s.answered q 0x92 tag [3]) ∧
    exec (.loadRead q tag b) s = .next (s.answered q 0xA6 tag [3]) ∧
    exec (.stopRead q tag b) s = .next (s.answered q 0xD6 tag [3]) := by
  refine ⟨congrArg Host.Outcome.next (State.request_denies h 0x12 tag _ .badArgument ?_),
    congrArg Host.Outcome.next (State.request_denies h 0x26 tag _ .badArgument ?_),
    congrArg Host.Outcome.next (State.request_denies h 0x56 tag _ .badArgument ?_)⟩
  · rw [reqPointRead, hb]
  · rw [reqLoadRead, hb]
  · rw [reqStopRead, hb]

theorem State.slots_flatMap (s : State) (first count : Nat) (f : SlotRec → List Byte) :
    ((s.slots.toList.drop first).take count).flatMap f =
      ((allSlots.drop first).take count).flatMap fun n => f (s.slot n) := by
  have hslots : s.slots.toList = allSlots.map s.slot := by
    refine List.ext_getElem (by simp [allSlots]) fun i hi _ => ?_
    simp [allSlots, State.slot]
  rw [hslots, ← List.map_drop, ← List.map_take, List.flatMap_map]

theorem exec_slotRead {s : State} {q : Port} (h : s.Takes q) (tag first count : Byte) :
    exec (.slotRead q tag first count) s =
      if first.toNat ≤ 47 ∧ 1 ≤ count.toNat ∧ count.toNat ≤ 7 ∧ first.toNat + count.toNat ≤ 48 then
        .next (s.answered q 0x93 tag (0 :: ((s.slots.toList.drop first.toNat).take count.toNat).flatMap SlotRec.bytes))
      else .next (s.answered q 0x93 tag [3]) := by
  split_ifs with hrange
  · rw [State.slots_flatMap]
    exact congrArg Host.Outcome.next (State.request_answers h 0x13 tag _ (.ok _) (by rw [reqSlotRead, if_pos hrange]; rfl))
  · exact congrArg Host.Outcome.next (State.request_denies h 0x13 tag _ .badArgument (if_neg hrange))

/-! ## Groups, the stop unit, the cue engine and the ports -/

theorem exec_groupRead {s : State} {q : Port} (h : s.Takes q) (tag : Byte) {b : Byte} {g : GroupId} (hb : groupOf b = some g) :
    exec (.groupRead q tag b) s = .next (s.answered q 0xB5 tag (0 :: (s.group g).bytes)) :=
  congrArg Host.Outcome.next (State.request_answers h 0x35 tag _ (.ok _) (by simp only [reqGroupRead, hb]; rfl))

theorem exec_motionRead {s : State} {q : Port} (h : s.Takes q) (tag : Byte) {b : Byte} {g : GroupId}
    (hb : groupOf b = some g) (first : Option Byte) : exec (.motionRead q tag b first) s =
      if (first.getD 0).toNat ≤ (s.group g).members.length then
        .next (s.answered q 0xC6 tag (0 :: ((s.group g).motionBytes (first.getD 0).toNat ++
          (((s.group g).members.drop (first.getD 0).toNat).take 2).flatMap fun m => s.memberBytes g m)))
      else .next (s.answered q 0xC6 tag [3]) := by
  split_ifs with hrange
  · refine congrArg Host.Outcome.next (State.request_answers h 0x46 tag _ (.ok _) ?_)
    simp only [reqMotionRead, hb]
    exact if_neg (Nat.not_lt.mpr hrange)
  · refine congrArg Host.Outcome.next (State.request_denies h 0x46 tag _ .badArgument ?_)
    simp only [reqMotionRead, hb]
    exact if_pos (Nat.lt_of_not_le hrange)

theorem exec_groupReads_refused {s : State} {q : Port} (h : s.Takes q) (tag : Byte) {b : Byte} (hb : groupOf b = none) :
    exec (.groupRead q tag b) s = .next (s.answered q 0xB5 tag [3]) ∧
    ∀ first, exec (.motionRead q tag b first) s = .next (s.answered q 0xC6 tag [3]) := by
  refine ⟨congrArg Host.Outcome.next (State.request_denies h 0x35 tag _ .badArgument ?_),
    fun first => congrArg Host.Outcome.next (State.request_denies h 0x46 tag _ .badArgument ?_)⟩
  · rw [reqGroupRead, hb]
  · rw [reqMotionRead, hb]

theorem exec_cueRead {s : State} {q : Port} (h : s.Takes q) (tag first count : Byte) : exec (.cueRead q tag first count) s =
    if count.toNat ≤ 6 ∧ (count = 0 ∨ first.toNat + count.toNat ≤ s.cue.list.length) then
      .next (s.answered q 0xE9 tag (0 :: (s.cue.bytes ++
        ((s.cue.list.drop first.toNat).take count.toNat).flatMap CueEntry.bytes)))
    else .next (s.answered q 0xE9 tag [3]) := by
  have hzero : count = 0 ↔ count.toNat = 0 := BitVec.toNat_eq
  split_ifs with hrange <;> rw [hzero] at hrange
  · refine congrArg Host.Outcome.next (State.request_answers h 0x69 tag _ (.ok _) (if_neg ?_))
    change ¬ (6 < count.toNat ∨ (count.toNat ≠ 0 ∧ s.cue.list.length < first.toNat + count.toNat))
    omega
  · refine congrArg Host.Outcome.next (State.request_denies h 0x69 tag _ .badArgument (if_pos ?_))
    change 6 < count.toNat ∨ (count.toNat ≠ 0 ∧ s.cue.list.length < first.toNat + count.toNat)
    omega

theorem PortRec.statusByte_touched (s : State) (q r : Port) : ((s.touched q).port r).statusByte = (s.port r).statusByte := by
  rw [State.touched_port]
  split_ifs with hr
  · rw [hr]
    rfl
  · rfl

theorem PortRec.statusByte_eq (r : PortRec) :
    r.statusByte = (0 : BitVec 6) ++ BitVec.ofBool r.enable ++ BitVec.ofBool (decide (r.link = .up)) := by
  rw [PortRec.statusByte]
  cases r.link <;> rfl

theorem exec_portStatus {s : State} {q : Port} (h : s.Takes q) (tag : Byte) :
    exec (.portStatus q tag) s = .next (s.answered q 0x81 tag
      (0 :: ([(s.port .a).statusByte, (s.port .b).statusByte, (s.port .c).statusByte, portByte q] ++
        nat2 (s.port q).errors ++ nat2 (s.port q).overruns ++
        [byte (s.notice q).records.length, boolByte (s.notice q).lost] ++ nat2 0x0C48 ++ [1]))) := by
  refine congrArg Host.Outcome.next (State.request_answers h 0x01 tag _ (.ok _) ?_)
  have ha := PortRec.statusByte_touched s q .a
  have hb := PortRec.statusByte_touched s q .b
  have hc := PortRec.statusByte_touched s q .c
  have hport := State.touched_port s q q
  rw [if_pos rfl] at hport
  rw [← ha, ← hb, ← hc, reqPortStatus, hport]
  rfl

/-- Settles O17: each read by what its request answers, and the fields of its table. -/
theorem readsAnswerTheTables : Obligations.ReadsAnswerTheTables := by
  unfold Obligations.ReadsAnswerTheTables
  refine ⟨fun s q tag h => ⟨fun b p hb => ⟨exec_pointRead h tag hb, ?load, ?stop⟩,
    fun b hb => exec_pointReads_refused h tag hb, exec_slotRead h tag⟩,
    fun s q tag h => ⟨fun b g hb => ⟨?group, exec_motionRead h tag hb⟩, fun b hb => exec_groupReads_refused h tag hb,
      congrArg Host.Outcome.next (State.request_answers h 0x57 tag _ (.ok _) rfl), exec_cueRead h tag, ?ports⟩⟩
  case load =>
    refine (exec_loadRead h tag hb).trans ?_
    cases hcal : (s.point p).load.cal <;> simp [LoadPart.bytes, LoadPart.marksByte, calBytes, hcal]
  case stop =>
    refine (exec_stopRead h tag hb).trans ?_
    cases hrun : (s.point p).lastRun with
    | none =>
      simp [State.sinceRun, hrun]
      rfl
    | some m => simp [State.sinceRun, hrun]
  case group =>
    refine (exec_groupRead h tag hb).trans ?_
    simp [GroupRec.bytes]
  case ports =>
    refine (exec_portStatus h tag).trans ?_
    simp only [PortRec.statusByte_eq]
    rfl

end Sys2Proof.Machine
end

section
/-!
Service jobs: their start (O26), their bytes (O27), and their ends (O28, O29).
-/
namespace Sys2Proof.Machine

open Sys2Proof

/-- An event that does nothing leaves the state. -/
theorem State.event_idle {s : State} (hquiet : s.Quiet) {f : State → State} (h : f s = s) : s.event f = s := by
  unfold State.event
  split_ifs
  · rfl
  · rw [h, State.flushPrompts_quiet hquiet]

/-! ## The start of a job (R41) -/

/-- R42: the entries that end LOST, each with its notice. -/
def State.failEntries (s : State) (lost : List PortEntry) : State :=
  lost.foldl (fun u x => u.notify x.port .serviceFailed (.point x.point)) s

theorem State.failEntries_notices (s : State) (lost : List PortEntry) :
    s.failEntries lost = { s with notices := (s.failEntries lost).notices } := by
  induction lost generalizing s with
  | nil => rfl
  | cons e rest ih => exact ih (s.notify e.port .serviceFailed (.point e.point))

theorem State.failEntries_service (s : State) (lost : List PortEntry) : (s.failEntries lost).service = s.service := by
  rw [State.failEntries_notices]

theorem State.failEntries_point (s : State) (lost : List PortEntry) (p : PointId) :
    (s.failEntries lost).point p = s.point p := by
  rw [State.failEntries_notices]
  rfl

theorem State.startPortJob_lost {s : State} {lost : List PortEntry}
    (h : ∀ x ∈ lost, (s.point x.point).boundSlot ≠ some x.slot) (rest : List PortEntry) :
    s.startPortJob (lost ++ rest) = (s.failEntries lost).startPortJob rest := by
  induction lost generalizing s with
  | nil => rfl
  | cons e lost ih =>
    rw [List.cons_append, State.startPortJob, if_neg (h e List.mem_cons_self)]
    exact ih fun x hx => h x (List.mem_cons_of_mem e hx)

theorem State.startJob_of_join {s : State} (hactive : s.service.active = none) {e : JoinEntry} {rest : List JoinEntry}
    (hjoin : s.service.joinList = e :: rest) : s.startJob = (s.setJoinList rest).setActive (some (s.joinJob e)) := by
  rw [State.startJob, hactive, hjoin]

theorem State.startJob_of_ports {s : State} (hactive : s.service.active = none) (hjoin : s.service.joinList = []) :
    s.startJob = s.startPortJob s.service.portQueue := by
  rw [State.startJob, hactive, hjoin]

/-- R42: where every entry's point has left its slot all of them end LOST. -/
theorem State.startJob_allLost {s : State} (hactive : s.service.active = none) (hjoin : s.service.joinList = [])
    (hlost : ∀ x ∈ s.service.portQueue, (s.point x.point).boundSlot ≠ some x.slot) :
    s.startJob = (s.failEntries s.service.portQueue).setService ⟨none, [], []⟩ := by
  have hfails := State.startPortJob_lost hlost []
  rw [List.append_nil] at hfails
  rw [State.startJob_of_ports hactive hjoin, hfails, State.startPortJob, State.setPortQueue, State.failEntries_service]
  dsimp only
  rw [hactive, hjoin]

theorem State.startJob_of_port {s : State} (hactive : s.service.active = none) (hjoin : s.service.joinList = [])
    {lost rest : List PortEntry} {e : PortEntry} (hqueue : s.service.portQueue = lost ++ e :: rest)
    (hlost : ∀ x ∈ lost, (s.point x.point).boundSlot ≠ some x.slot) (hbound : (s.point e.point).boundSlot = some e.slot) :
    s.startJob = (s.failEntries lost).setService { s.service with portQueue := rest, active := some e.job } := by
  rw [State.startJob_of_ports hactive hjoin, hqueue, State.startPortJob_lost hlost, State.startPortJob,
    if_pos (by rwa [State.failEntries_point]), State.setPortQueue, State.setActive, State.failEntries_service]
  rfl

theorem exec_serviceJobStart {s : State} (hrun : s.inReset = false) :
    exec .serviceJobStart s = .next s.startJob.flushPrompts :=
  congrArg Host.Outcome.next (State.event_running hrun _)

/-- Settles O26: the join list first, then the port service queue past the entries that end LOST. -/
theorem serviceJobsStartInOrder : Obligations.ServiceJobsStartInOrder := by
  unfold Obligations.ServiceJobsStartInOrder
  intro s hrun hquiet
  refine ⟨fun hactive => ?busy, fun hactive hjoin hqueue => ?idle, fun e rest hactive hjoin => ?join,
    fun hactive hjoin hlost => ?allLost, fun lost e rest hactive hjoin hqueue hlost hbound => ?port⟩
  case busy =>
    obtain ⟨j, hj⟩ := Option.ne_none_iff_exists'.mp hactive
    exact congrArg Host.Outcome.next (State.event_idle hquiet (State.startJob_busy hj))
  case idle =>
    refine congrArg Host.Outcome.next (State.event_idle hquiet ?_)
    rw [State.startJob_of_ports hactive hjoin, hqueue, State.startPortJob, State.setPortQueue, ← hqueue]
    rfl
  case join =>
    refine (exec_serviceJobStart hrun).trans (congrArg Host.Outcome.next ?_)
    rw [State.startJob_of_join hactive hjoin]
    refine (State.flushPrompts_quiet (s := (s.setJoinList rest).setActive (some (s.joinJob e))) hquiet).trans ?_
    cases hkind : e.kind <;> simp [State.joinJob, hkind, newJob, State.setActive, State.setJoinList] <;> rfl
  case allLost =>
    exact (exec_serviceJobStart hrun).trans (congrArg (Host.Outcome.next ·.flushPrompts)
      (State.startJob_allLost hactive hjoin hlost))
  case port =>
    refine (exec_serviceJobStart hrun).trans (congrArg (Host.Outcome.next ·.flushPrompts)
      ((State.startJob_of_port hactive hjoin hqueue hlost hbound).trans ?_))
    cases hwrite : e.write <;> simp [PortEntry.job, hwrite, newJob, State.failEntries]

/-! ## The bytes of a job (R35 to R38) -/

section Taken

variable {s : State} {j : Job} (hactive : s.service.active = some j)
include hactive

theorem State.serviceTaken_other {n : SlotId} (h : n ≠ j.slot) (o : Byte) (m : Mark) : s.serviceTaken n o m = s := by
  simp only [State.serviceTaken, hactive]
  exact if_pos h.symm

theorem State.serviceTaken_unplaced (hphase : j.phase = .sending) (hcount : j.count = 0) (o : Byte) (m : Mark) :
    s.serviceTaken j.slot o m = s := by
  simp [State.serviceTaken, hactive, hphase, hcount]

theorem State.serviceTaken_sending (hphase : j.phase = .sending) (hcount : 0 < j.count) (o : Byte) (m : Mark) :
    s.serviceTaken j.slot o m =
      if j.prev = some (o, m) ∧ m = .fourth then s.endJob .aborted
      else if j.prev.map Prod.snd = some m ∧ m = phaseOf j.index then
        if j.index + 1 < j.message.length then
          s.setActive (some { j with index := j.index + 1, count := 0, prev := some (o, m) })
        else s.setActive (some { j with phase := .ending 0, count := 0, prev := some (o, m) })
      else s.setActive (some { j with prev := some (o, m) }) := by
  simp [State.serviceTaken, hactive, hphase, hcount.ne']

theorem State.serviceTaken_ending {k : Nat} (hphase : j.phase = .ending k) (o : Byte) (m : Mark) :
    s.serviceTaken j.slot o m =
      if j.prev = some (o, m) ∧ m = .fourth then s.endJob .aborted
      else s.setActive (some { j with prev := some (o, m) }) := by
  simp [State.serviceTaken, hactive, hphase]

theorem State.serviceTaken_receiving (hphase : j.phase = .receiving) (o : Byte) (m : Mark) :
    s.serviceTaken j.slot o m =
      if j.prev = some (o, m) ∧ m = phaseOf j.response.length then
        if j.response.length < 7 then
          s.setActive (some { j with response := j.response ++ [o], count := 0, prev := some (o, m) })
        else s.setActive (some { j with phase := .aborting 0, count := 0, prev := some (o, m) })
      else if j.prev = some (o, m) ∧ m = .fourth ∧ o = 0xFF then s.endJob (.response j.response)
      else s.setActive (some { j with prev := some (o, m) }) := by
  simp [State.serviceTaken, hactive, hphase]

theorem State.serviceTaken_aborting {k : Nat} (hphase : j.phase = .aborting k) (o : Byte) (m : Mark) :
    s.serviceTaken j.slot o m = s.setActive (some { j with prev := some (o, m) }) := by
  simp [State.serviceTaken, hactive, hphase]

end Taken

theorem phaseOf_ne_fourth (k : Nat) : phaseOf k ≠ .fourth := by
  unfold phaseOf
  split_ifs <;> nofun

theorem Job.overdue_of_due {j : Job} (hphase : j.phase = .sending ∨ j.phase = .receiving) (hcount : 64 ≤ j.count) :
    j.overdue = true := by
  rcases hphase with hphase | hphase <;> simp [Job.overdue, hphase, Config.serviceFrames, hcount]

theorem Job.not_overdue {j : Job} (hcount : j.count < 64) : j.overdue = false := by
  unfold Job.overdue
  split
  · exact decide_eq_false (Nat.not_le.mpr hcount)
  · exact decide_eq_false (Nat.not_le.mpr hcount)
  · rfl
  · rfl

theorem State.serviceOverdue_of_due {s : State} {j : Job} (hactive : s.service.active = some j) (h : j.overdue = true) :
    s.serviceOverdue = s.endJob .timeout := by
  simp only [State.serviceOverdue, hactive, if_pos h]

theorem State.serviceOverdue_of_not_due {s : State} {j : Job} (hactive : s.service.active = some j)
    (h : j.overdue = false) : s.serviceOverdue = s := by
  simp only [State.serviceOverdue, hactive]
  exact if_neg (ne_true_of_eq_false h)

theorem exec_serviceJobEnd {s : State} (hrun : s.inReset = false) {j : Job} (hactive : s.service.active = some j)
    (e : JobEnd) : exec (.serviceJobEnd e) s = .next (s.endJob e).flushPrompts :=
  congrArg Host.Outcome.next ((State.event_running hrun _).trans (congrArg State.flushPrompts (if_pos (by rw [hactive]; rfl))))

/-- Settles O27: what a field does in each phase of the job, by the order of its checks. -/
theorem serviceBytesMoveOnPairsOrTimeOut : Obligations.ServiceBytesMoveOnPairsOrTimeOut := by
  unfold Obligations.ServiceBytesMoveOnPairsOrTimeOut
  refine ⟨fun s j o o' m hactive hprev => ?pairs, fun s j n o m hactive => ?others, fun s n o m hactive => ?none,
    fun s j hrun hquiet hactive => ⟨fun hphase hcount => ⟨?_, exec_serviceJobEnd hrun hactive _⟩, fun hcount => ?_⟩⟩
  case pairs =>
    refine ⟨fun hphase hcount hm => ?ack, fun hphase hcount hm ho => ?abortSending, fun k hphase hm ho => ?abortEnding,
      fun hphase ho hm hroom => ?byte, fun hphase ho hm hfull => ?eighth, fun hphase ho ho' hm => ?response⟩
    case ack =>
      have hmark : j.prev.map Prod.snd = some m := by rw [hprev]; rfl
      rw [State.serviceTaken_sending hactive hphase hcount, if_neg (fun h => phaseOf_ne_fourth j.index (hm.symm.trans h.2)),
        if_pos ⟨hmark, hm⟩]
      rfl
    case abortSending =>
      rw [State.serviceTaken_sending hactive hphase hcount, if_pos ⟨by rw [hprev, ho], hm⟩]
    case abortEnding => rw [State.serviceTaken_ending hactive hphase, if_pos ⟨by rw [hprev, ho], hm⟩]
    case byte =>
      rw [State.serviceTaken_receiving hactive hphase, if_pos ⟨by rw [hprev, ho], hm⟩, if_pos hroom]
      rfl
    case eighth =>
      rw [State.serviceTaken_receiving hactive hphase, if_pos ⟨by rw [hprev, ho], hm⟩, if_neg (Nat.not_lt.mpr hfull)]
      rfl
    case response =>
      rw [State.serviceTaken_receiving hactive hphase,
        if_neg (fun h => phaseOf_ne_fourth j.response.length (h.2.symm.trans hm)), if_pos ⟨by rw [hprev, ho, ho'], hm, ho⟩]
  case others =>
    have hmark : j.prev.map Prod.snd = some m ↔ ∃ o', j.prev = some (o', m) := by
      simp [Option.map_eq_some_iff, Prod.exists]
    refine ⟨fun h => State.serviceTaken_other hactive h o m, fun hphase hcount => State.serviceTaken_unplaced hactive hphase
      hcount o m, fun hphase hcount hack habort => ?_, fun k hphase habort => ?_, fun hphase hbyte hend => ?_,
      fun k hphase => State.serviceTaken_aborting hactive hphase o m⟩
    · rw [State.serviceTaken_sending hactive hphase hcount, if_neg habort, if_neg (fun h => hack ⟨hmark.mp h.1, h.2⟩)]
      rfl
    · rw [State.serviceTaken_ending hactive hphase, if_neg habort]
      rfl
    · refine (State.serviceTaken_receiving hactive hphase o m).trans ((if_neg hbyte).trans ?_)
      rw [if_neg hend]
      rfl
  case none => rw [State.serviceTaken, hactive]
  · refine congrArg Host.Outcome.next ((State.event_running hrun _).trans (congrArg State.flushPrompts ?_))
    exact State.serviceOverdue_of_due hactive (Job.overdue_of_due hphase hcount)
  · exact congrArg Host.Outcome.next (State.event_idle hquiet
      (State.serviceOverdue_of_not_due hactive (Job.not_overdue hcount)))

/-! ## The ends of jobs (R10 to R12, R39, R43) -/

theorem ServiceKind.outcome_fails {k : ServiceKind} {e : JobEnd} (h : JobEnd.fails k.responseLength e = true) :
    (k.outcome e).isOk = false := by
  unfold ServiceKind.outcome
  split
  · rfl
  · split_ifs with _ hstatus hlength
    · rfl
    · rfl
    · rw [not_not] at hstatus
      rw [List.length_cons] at hlength
      simp [JobEnd.fails, hstatus, hlength] at h
    · rfl
  all_goals rfl

theorem ServiceKind.outcome_ok {k : ServiceKind} {data : List Byte} (hsize : data.length < 7)
    (hlength : data.length + 1 = k.responseLength) : k.outcome (.response (0 :: data)) = .ok data := by
  have hsize' : ¬ 7 < ((0 : Byte) :: data).length := by rw [List.length_cons]; omega
  rw [ServiceKind.outcome, if_neg hsize', if_neg (not_not.mpr rfl), List.length_cons, if_pos hlength]

/-- R12, R43: the one notice of a job's end, to the port that asked for it, or to every port. -/
def State.tellEnd (s : State) (o : JobOrigin) (k : NoticeKind) (p : PointId) : State :=
  match o with
  | .port q => s.notify q k (.point p)
  | _ => s.notifyAll k (.point p)

/-- The block that asked for a job takes its outcome. -/
def State.jobDone (s : State) (j : Job) (o : ServiceOutcome) : State :=
  match j.origin, j.kind, o with
  | .port q, _, _ => s.portJobDone j q o
  | _, .ident, .ok data => s.identDone j (identityOf data)
  | _, .ident, _ => s.identFailed j.slot
  | _, _, _ => s.calReadDone j o

theorem State.finishJob_eq {s : State} {j : Job} (hactive : s.service.active = some j) (e : JobEnd) :
    s.finishJob e = (if (j.kind.outcome e).isOk then s.setActive none else (s.setActive none).oweIdle j.slot).jobDone j
      (j.kind.outcome e) := by
  simp only [State.finishJob, hactive]
  rfl

/-- The values a successful job brings its point. -/
def Job.brings (j : Job) (data : List Byte) (l : LoadPart) : LoadPart :=
  match j.kind, j.write with
  | .calWrite, some c => l.install c
  | .calRead, _ => l.installRead (calOf data)
  | _, _ => l

section Told

variable {s : State} {j : Job} {p : PointId} (hpoint : j.point = some p)
  (hkind : (∃ q, j.origin = .port q) ∨ j.kind = .calRead)
include hpoint hkind

theorem State.jobDone_fails {o : ServiceOutcome} (ho : o.isOk = false) :
    s.jobDone j o = s.tellEnd j.origin .serviceFailed p := by
  unfold State.jobDone State.tellEnd
  cases horigin : j.origin with
  | port q =>
    cases o with
    | ok => cases ho
    | _ => simp [State.portJobDone, hpoint]
  | _ =>
    have hread := hkind.resolve_left (by rintro ⟨q, hq⟩; cases horigin.symm.trans hq)
    cases o with
    | ok => cases ho
    | _ => simp [hread, State.calReadDone, hpoint]

theorem State.jobDone_left (h : s.stillBound j p = false) (data : List Byte) :
    s.jobDone j (.ok data) = s.tellEnd j.origin .serviceFailed p := by
  unfold State.jobDone State.tellEnd
  cases horigin : j.origin with
  | port q => simp [State.portJobDone, hpoint, h]
  | _ =>
    have hread := hkind.resolve_left (by rintro ⟨q, hq⟩; cases horigin.symm.trans hq)
    simp [hread, State.calReadDone, hpoint, h]

theorem State.jobDone_ok (h : s.stillBound j p = true) (data : List Byte) :
    s.jobDone j (.ok data) = (s.setLoad p (j.brings data (s.point p).load)).tellEnd j.origin .serviceDone p := by
  unfold State.jobDone State.tellEnd
  cases horigin : j.origin with
  | port q =>
    simp [State.portJobDone, hpoint, h]
    rfl
  | _ =>
    have hread := hkind.resolve_left (by rintro ⟨q, hq⟩; cases horigin.symm.trans hq)
    simp [hread, State.calReadDone, hpoint, h, Job.brings]

end Told

theorem exec_serviceJobEnd_ok {s : State} {j : Job} (hrun : s.inReset = false) (hactive : s.service.active = some j)
    {e : JobEnd} {data : List Byte} (ho : j.kind.outcome e = .ok data) {t : State}
    (ht : (s.setActive none).jobDone j (.ok data) = t) : exec (.serviceJobEnd e) s = .next t.startJob.flushPrompts := by
  rw [exec_serviceJobEnd hrun hactive, State.endJob, State.finishJob_eq hactive, ho, ← ht]
  rfl

theorem exec_serviceJobEnd_fails {s : State} {j : Job} (hrun : s.inReset = false) (hactive : s.service.active = some j)
    {e : JobEnd} (ho : (j.kind.outcome e).isOk = false) {t : State}
    (ht : ((s.setActive none).oweIdle j.slot).jobDone j (j.kind.outcome e) = t) :
    exec (.serviceJobEnd e) s = .next t.startJob.flushPrompts := by
  rw [exec_serviceJobEnd hrun hactive, State.endJob, State.finishJob_eq hactive, if_neg (ne_true_of_eq_false ho), ht]

theorem State.stillBound_iff (s : State) (j : Job) (p : PointId) :
    s.stillBound j p = true ↔ (s.point p).boundSlot = some j.slot ∧ j.discard = false := by
  simp [State.stillBound, and_comm]

/-- Settles O28: the outcome, then whether the point has been bound all the while, then what the kind brings. -/
theorem jobsEndWithOneNotice : Obligations.JobsEndWithOneNotice := by
  unfold Obligations.JobsEndWithOneNotice
  intro s j p hrun hactive hpoint hkind
  refine ⟨fun e he => ?fails, fun hleft data hsize hlength => ?left, fun hbound hdiscard c hwrites hc => ?writes,
    fun hbound hdiscard hreads z1 z0 s1 s0 w1 w0 => ?reads⟩
  case fails =>
    have ho := ServiceKind.outcome_fails he
    exact exec_serviceJobEnd_fails hrun hactive ho (State.jobDone_fails hpoint hkind ho)
  case left =>
    have hstill : (s.setActive none).stillBound j p = false :=
      eq_false_of_ne_true fun h => by
        obtain ⟨hbound, hdiscard⟩ := ((s.setActive none).stillBound_iff j p).mp h
        exact hleft.elim (· hbound) (fun hd => nomatch hd.symm.trans hdiscard)
    exact exec_serviceJobEnd_ok hrun hactive (ServiceKind.outcome_ok hsize hlength)
      (State.jobDone_left hpoint hkind hstill data)
  case writes =>
    have hstill := ((s.setActive none).stillBound_iff j p).mpr ⟨hbound, hdiscard⟩
    refine exec_serviceJobEnd_ok hrun hactive
      (ServiceKind.outcome_ok (data := []) (Nat.zero_lt_succ 6) (by rw [hwrites]; rfl)) ?_
    rw [State.jobDone_ok hpoint hkind hstill, Job.brings, hwrites, hc]
    rfl
  case reads =>
    have hstill := ((s.setActive none).stillBound_iff j p).mpr ⟨hbound, hdiscard⟩
    refine exec_serviceJobEnd_ok hrun hactive
      (ServiceKind.outcome_ok (data := [z1, z0, s1, s0, w1, w0]) (by simp) (by rw [hreads]; rfl)) ?_
    have hbrings : ∀ l : LoadPart, j.brings [z1, z0, s1, s0, w1, w0] l =
        if (calOf [z1, z0, s1, s0, w1, w0]).inRange then l.install (calOf [z1, z0, s1, s0, w1, w0])
        else { l.restart with cal := none, calFault := true } := fun l => by
      rw [Job.brings, hreads]
      rfl
    rw [State.jobDone_ok hpoint hkind hstill, hbrings]
    refine congrArg (State.tellEnd · j.origin .serviceDone p) ?_
    by_cases hrange : (calOf [z1, z0, s1, s0, w1, w0]).inRange = true
    · rw [if_pos hrange]
      exact (if_pos ((Cal.inRange_iff _).mp hrange)).symm
    · rw [if_neg hrange]
      exact (if_neg fun h => hrange ((Cal.inRange_iff _).mpr h)).symm

/-! ## The end of an IDENT (R10, R11) -/

theorem State.patchedPoint_eq_none {s : State} {x : Identity} (h : ∀ p, (s.point p).identity ≠ some x) :
    s.patchedPoint x = none := by
  rw [State.patchedPoint, List.find?_eq_none]
  exact fun p _ => by simpa using h p

theorem State.patchedPoint_eq_some {s : State} {x : Identity} {p : PointId}
    (h : ∀ p', (s.point p').identity = some x ↔ p' = p) : s.patchedPoint x = some p := by
  cases hfind : s.patchedPoint x with
  | none =>
    have := List.find?_eq_none.mp hfind p (List.mem_finRange p)
    simp [(h p).mpr rfl] at this
  | some p' =>
    have := List.find?_some hfind
    rw [(h p').mp (by simpa using this)]

theorem State.jobDone_ident {s : State} {j : Job} (hkind : j.kind = .ident) (horigin : j.origin = .join)
    (data : List Byte) : s.jobDone j (.ok data) = s.identDone j (identityOf data) := by
  simp only [State.jobDone, hkind, horigin]

theorem State.jobDone_ident_fails {s : State} {j : Job} (hkind : j.kind = .ident) (horigin : j.origin = .join)
    {o : ServiceOutcome} (ho : o.isOk = false) : s.jobDone j o = s.identFailed j.slot := by
  cases o with
  | ok => cases ho
  | _ => simp only [State.jobDone, hkind, horigin]

/-- R6 for a JOINING slot that has just been given its identity. -/
theorem State.bind_identified (s : State) (p : PointId) (n : SlotId) (x : Identity) :
    (s.setSlot n { s.slot n with identity := some x }).bind p n =
      ((s.setSlot n { s.slot n with
        state := .bound, identity := some x, point := some p, candidate := none, accepted := none }).setPoint p
          ((s.point p).boundTo n)).notifyAll .nodeJoined (.point p) := by
  simp only [State.bind_eq, State.linked, State.setSlot_slot, if_true, State.setSlot_setSlot]
  rfl

/-- Settles O29: Table 1-5 case by case, and R11. -/
theorem identBindsOrLeavesForeign : Obligations.IdentBindsOrLeavesForeign := by
  unfold Obligations.IdentBindsOrLeavesForeign
  intro s j hrun hactive hkind horigin hjoining
  have hends : ∀ (a b c d : Byte) {t : State}, (s.setActive none).identDone j (word4 a b c d) = t →
      exec (.serviceJobEnd (.response [0, a, b, c, d])) s = .next t.startJob.flushPrompts := fun a b c d t ht =>
    exec_serviceJobEnd_ok hrun hactive (ServiceKind.outcome_ok (data := [a, b, c, d]) (by simp) (by rw [hkind]; rfl))
      ((State.jobDone_ident hkind horigin _).trans ht)
  have hdone := fun x => State.identDone_of_joining (s := s.setActive none) hjoining x
  refine ⟨fun a b c d => ⟨fun hx => hends a b c d ?_, fun h0 h1 hnone => hends a b c d ?_, fun h0 h1 p hp =>
    ⟨fun hbound => hends a b c d ?_, fun hunbound => ?bind⟩⟩, fun e he => ?fails⟩
  case bind =>
    have hbind : (s.setActive none).identDone j (word4 a b c d) = ((s.setActive none).setSlot j.slot
        { s.slot j.slot with identity := some (word4 a b c d) } |>.bind p j.slot).setActive
          (some (newJob j.slot .calRead j.origin (some p) none)) := by
      rw [hdone, if_neg (not_or.mpr ⟨h0, h1⟩), State.patchedPoint_eq_some (s := s.setActive none) hp]
      exact if_pos (Option.isNone_iff_eq_none.mpr hunbound)
    refine (hends a b c d hbind).trans (congrArg (Host.Outcome.next ·.flushPrompts) ((State.startJob_busy rfl).trans ?_))
    rw [horigin]
    exact (congrArg (State.setActive · (some (newJob j.slot .calRead .join (some p) none)))
      (State.bind_identified (s.setActive none) p j.slot (word4 a b c d))).trans rfl
  case fails =>
    have ho := ServiceKind.outcome_fails (k := j.kind) (by rw [hkind]; exact he)
    refine exec_serviceJobEnd_fails hrun hactive ho ((State.jobDone_ident_fails hkind horigin ho).trans ?_)
    have howed : ((s.setActive none).oweIdle j.slot).slot j.slot = { s.slot j.slot with idleOwed := 2 } := by
      rw [State.oweIdle, State.setSlot_slot, if_pos rfl]
      rfl
    rw [State.identFailed, howed, if_pos hjoining, State.oweIdle, State.setSlot_setSlot]
    rfl
  · rw [hdone, if_pos hx]
    rfl
  · rw [hdone, if_neg (not_or.mpr ⟨h0, h1⟩), State.patchedPoint_eq_none (s := s.setActive none) hnone]
    rfl
  · rw [hdone, if_neg (not_or.mpr ⟨h0, h1⟩), State.patchedPoint_eq_some (s := s.setActive none) hp]
    exact if_neg fun h => hbound (Option.isNone_iff_eq_none.mp h)

end Sys2Proof.Machine
end

section
/-!
The frame (O22).
-/
namespace Sys2Proof.Machine

open Sys2Proof

/-! ## The fields of a frame (R21, R22, R32) -/

/-- The position of the next frame (R21). -/
def State.framePosNext (s : State) : Nat :=
  if s.bus.restart then 0 else if s.bus.framePos + 1 = s.bus.epoch.frames then 0 else s.bus.framePos + 1

theorem State.nextPos_eq {s : State} (h : s.bus.framePos < s.bus.epoch.frames) : s.bus.nextPos = s.framePosNext := by
  rw [Bus.nextPos, State.framePosNext]
  split_ifs <;> omega

/-- A frame that carries a given octet and mark in each slot. -/
def State.sent (s : State) (carried : SlotId → Byte × Mark) : State :=
  { s with
    now := s.now + 2
    bus := { s.bus with
      framePos := s.framePosNext
      restart := false
      downstream := Vector.ofFn fun n => ⟨s.effective n, decide (s.framePosNext = 0), (carried n).1, (carried n).2⟩ }
    points := Vector.ofFn fun p => { s.point p with
      lastRun := if ∃ n, (s.point p).boundSlot = some n ∧ (s.slot n).state = .bound ∧ (s.slot n).point = some p ∧
          s.effective n ≠ .stop
        then some (s.now + 2) else (s.point p).lastRun }
    slots := Vector.ofFn fun n => { s.slot n with idleOwed := (s.slot n).idleOwed - 1 } }

/-- R32: the mark of a point whose BOUND slot is sent UP or DOWN. -/
theorem State.markRun_eq (s : State) (p : PointId) : s.markRun p (s.point p) = { s.point p with
    lastRun := if ∃ n, (s.point p).boundSlot = some n ∧ (s.slot n).state = .bound ∧ (s.slot n).point = some p ∧
        s.effective n ≠ .stop then some s.now else (s.point p).lastRun } := by
  unfold State.markRun
  cases hbound : (s.point p).boundSlot with
  | none =>
    rw [if_neg (by simp)]
  | some n =>
    dsimp only
    by_cases hsent : (s.slot n).state = .bound ∧ (s.slot n).point = some p ∧ s.effective n ≠ .stop
    · rw [if_pos hsent, if_pos ⟨n, rfl, hsent⟩, ← hbound]
    · rw [if_neg hsent, if_neg (by rintro ⟨k, hk, h⟩; cases hk; exact hsent h)]

theorem State.advance_sendFields {s : State} (h : s.bus.framePos < s.bus.epoch.frames) :
    s.advance.sendFields = s.sent s.placed := by
  have hpos : s.advance.bus.framePos = s.framePosNext := State.nextPos_eq h
  have hdown : (Vector.ofFn fun n => s.advance.downField n) =
      Vector.ofFn fun n => ⟨s.effective n, decide (s.framePosNext = 0), (s.placed n).1, (s.placed n).2⟩ := by
    congr 1
    funext n
    rw [State.downField, hpos]
    rfl
  have hpoints : (Vector.ofFn fun p => s.advance.markRun p (s.advance.point p)) = (s.sent s.placed).points :=
    congrArg Vector.ofFn (funext fun p => s.advance.markRun_eq p)
  have hbus : s.advance.bus = { s.bus with framePos := s.framePosNext, restart := false } := by
    rw [← State.nextPos_eq h]
    rfl
  rw [State.sendFields, hdown, hpoints, map_eq_ofFn, hbus]
  rfl

/-! ## What a slot carries (R36 to R38) -/

/-- What the slot of an active job carries. -/
def State.part (s : State) (j : Job) : Byte × Mark :=
  if j.phase = .sending ∧ 0 < (s.slot j.slot).idleOwed then (0xFF, .idle) else match j.phase with
    | .sending => (j.message.getD j.index 0xFF, if j.index % 2 = 0 then .phase0 else .phase1)
    | .ending k => (0xFF, if k < 2 then .fourth else .idle)
    | .receiving => (0xFF, if j.response.length = 0 then .idle
        else if j.response.length % 2 = 1 then .phase0 else .phase1)
    | .aborting _ => (0xFF, .fourth)

theorem State.jobWaits_iff (s : State) (j : Job) :
    s.jobWaits j = true ↔ j.phase = .sending ∧ 0 < (s.slot j.slot).idleOwed := by
  simp [State.jobWaits]

theorem phaseOf_taken (k : Nat) : phaseOf k = if (k + 1) % 2 = 1 then .phase0 else .phase1 := by
  rw [phaseOf]
  exact if_congr (by omega) rfl rfl

theorem Job.placed_eq (j : Job) : j.placed = match j.phase with
    | .sending => (j.message.getD j.index 0xFF, if j.index % 2 = 0 then .phase0 else .phase1)
    | .ending k => (0xFF, if k < 2 then .fourth else .idle)
    | .receiving => (0xFF, if j.response.length = 0 then .idle
        else if j.response.length % 2 = 1 then .phase0 else .phase1)
    | .aborting _ => (0xFF, .fourth) := by
  unfold Job.placed
  cases j.phase with
  | sending =>
    rw [List.getD_eq_getElem?_getD]
    rfl
  | ending k =>
    dsimp only
    split_ifs <;> rfl
  | receiving =>
    cases j.response with
    | nil => rfl
    | cons b taken =>
      dsimp only
      rw [phaseOf_taken]
      rfl
  | aborting _ => rfl

theorem State.placed_of_active {s : State} {j : Job} (hactive : s.service.active = some j) :
    s.placed = fun n => if n = j.slot then s.part j else (0xFF, .idle) := by
  funext n
  simp only [State.placed, hactive, State.part, ← Job.placed_eq, ← State.jobWaits_iff]
  by_cases hslot : n = j.slot
  · subst hslot
    cases s.jobWaits j <;> simp
  · rw [if_neg hslot, if_neg (fun h => hslot h.1.symm)]

theorem State.placed_of_idle {s : State} (hactive : s.service.active = none) : s.placed = fun _ => (0xFF, .idle) := by
  funext n
  simp only [State.placed, hactive]

/-! ## The frame as an event -/

theorem exec_frame {s : State} (hrun : s.inReset = false) : exec .frame s = .next s.newFrame.flushPrompts :=
  congrArg Host.Outcome.next (State.event_running hrun _)

theorem State.newFrame_of_idle {s : State} (hactive : s.service.active = none)
    (hpos : s.bus.framePos < s.bus.epoch.frames) : s.newFrame = s.sent fun _ => (0xFF, .idle) := by
  have hoverdue : s.serviceOverdue = s := by rw [State.serviceOverdue, hactive]
  have hactive' : (s.sent s.placed).service.active = none := hactive
  rw [State.newFrame, hoverdue, State.advance_sendFields hpos, State.serviceSent, hactive', State.placed_of_idle hactive]

theorem State.newFrame_of_job {s : State} {j : Job} (hactive : s.service.active = some j) (h : j.overdue = false)
    (hpos : s.bus.framePos < s.bus.epoch.frames) : s.newFrame =
      (s.sent fun n => if n = j.slot then s.part j else (0xFF, .idle)).serviceSent (s.jobWaits j) := by
  have hwaits : s.advance.serviceWaits = s.jobWaits j := by
    rw [State.serviceWaits, show s.advance.service.active = some j from hactive]
    rfl
  rw [State.newFrame, State.serviceOverdue_of_not_due hactive h, State.advance_sendFields hpos,
    State.placed_of_active hactive, hwaits]

/-! ## A transfer whose frames have run out -/

theorem State.identFailed_service (s : State) (n : SlotId) : (s.identFailed n).service = s.service := by
  unfold State.identFailed
  split_ifs <;> rfl

theorem State.portJobDone_service (s : State) (j : Job) (q : Port) (o : ServiceOutcome) :
    (s.portJobDone j q o).service = s.service := by
  unfold State.portJobDone
  split
  · rfl
  · split_ifs <;> rfl
  · rfl

theorem State.calReadDone_service (s : State) (j : Job) (o : ServiceOutcome) : (s.calReadDone j o).service = s.service := by
  unfold State.calReadDone
  split
  · rfl
  · split_ifs <;> rfl
  · rfl

theorem State.jobDone_service_of_fails {s : State} {j : Job} {o : ServiceOutcome} (ho : o.isOk = false) :
    (s.jobDone j o).service = s.service := by
  unfold State.jobDone
  split
  · exact s.portJobDone_service j _ _
  · cases ho
  · exact s.identFailed_service j.slot
  · exact s.calReadDone_service j _

theorem State.finishJob_idle_of_fails {s : State} {j : Job} (hactive : s.service.active = some j) {e : JobEnd}
    (ho : (j.kind.outcome e).isOk = false) : (s.finishJob e).service.active = none := by
  rw [State.finishJob_eq hactive, if_neg (ne_true_of_eq_false ho), State.jobDone_service_of_fails ho]
  rfl

/-- A job that starts has had no frame yet. -/
theorem State.startPortJob_count (l : List PortEntry) {s : State} (hactive : s.service.active = none) :
    ∀ j, (s.startPortJob l).service.active = some j → j.count = 0 := by
  induction l generalizing s with
  | nil =>
    intro j hj
    cases hactive.symm.trans hj
  | cons e rest ih =>
    rw [State.startPortJob]
    split_ifs
    · intro j hj
      cases hj
      rfl
    · exact ih hactive

theorem State.startJob_count {s : State} (hactive : s.service.active = none) :
    ∀ j, s.startJob.service.active = some j → j.count = 0 := by
  cases hjoin : s.service.joinList with
  | nil =>
    rw [State.startJob_of_ports hactive hjoin]
    exact State.startPortJob_count _ hactive
  | cons e rest =>
    rw [State.startJob_of_join hactive hjoin]
    intro j hj
    cases hj
    cases hkind : e.kind <;> simp [State.joinJob, hkind, newJob]

theorem State.serviceOverdue_of_fresh {s : State} (h : ∀ j, s.service.active = some j → j.count = 0) :
    s.serviceOverdue = s := by
  cases hactive : s.service.active with
  | none => rw [State.serviceOverdue, hactive]
  | some j => exact State.serviceOverdue_of_not_due hactive (Job.not_overdue (by rw [h j hactive]; exact Nat.succ_pos 63))

/-- R36, R37: a transfer that is overdue fails before the frame's fields go out. -/
theorem exec_frame_overdue {s : State} (hrun : s.inReset = false) {j : Job} (hactive : s.service.active = some j)
    (h : j.overdue = true) : exec .frame s = exec .frame (s.endJob .timeout) := by
  have hrun' : (s.endJob .timeout).inReset = false := (s.endJob_binds .timeout).inReset.trans hrun
  have hidle : (s.finishJob .timeout).service.active = none := State.finishJob_idle_of_fails hactive rfl
  rw [exec_frame hrun, exec_frame hrun', State.newFrame, State.newFrame, State.serviceOverdue_of_due hactive h,
    State.serviceOverdue_of_fresh (s := s.endJob .timeout) (State.startJob_count hidle)]

theorem Job.overdue_iff (j : Job) : j.overdue = true ↔ (j.phase = .sending ∨ j.phase = .receiving) ∧ 64 ≤ j.count := by
  unfold Job.overdue
  split
  next h => exact ⟨fun hc => ⟨.inl h, of_decide_eq_true hc⟩, fun hc => decide_eq_true hc.2⟩
  next h => exact ⟨fun hc => ⟨.inr h, of_decide_eq_true hc⟩, fun hc => decide_eq_true hc.2⟩
  all_goals simp_all

/-- The active job after its fields of a frame have been sent, in a state with no prompt raised. -/
theorem State.serviceSent_flush {u : State} {j : Job} (hquiet : u.Quiet) (hactive : u.service.active = some j)
    {waits : Bool} {w : Prop} [Decidable w] (hwaits : waits = true ↔ w) : (u.serviceSent waits).flushPrompts =
      match j.phase with
      | .sending => if w then u else u.setActive (some { j with count := j.count + 1 })
      | .ending 0 => u.setActive (some { j with phase := .ending 1 })
      | .ending 1 => u.setActive (some { j with phase := .ending 2 })
      | .ending _ => u.setActive (some { j with phase := .receiving, count := 1, prev := none })
      | .receiving => u.setActive (some { j with count := j.count + 1 })
      | .aborting 0 => u.setActive (some { j with phase := .aborting 1 })
      | .aborting _ => (u.endJob .aborted).flushPrompts := by
  have hafter : ∀ k : Job, (u.setActive (some k)).flushPrompts = u.setActive (some k) := fun k =>
    State.flushPrompts_quiet (s := u.setActive (some k)) hquiet
  rw [State.serviceSent, hactive]
  dsimp only
  cases j.phase with
  | sending =>
    dsimp only
    by_cases hw : w
    · rw [if_pos hw, if_pos (hwaits.mpr hw), State.flushPrompts_quiet hquiet]
    · rw [if_neg hw, if_neg (fun h => hw (hwaits.mp h)), hafter]
  | ending k =>
    match k with
    | 0 => exact hafter _
    | 1 => exact hafter _
    | n + 2 => exact hafter _
  | receiving => exact hafter _
  | aborting k =>
    match k with
    | 0 => exact hafter _
    | n + 1 => rfl

/-- R36 to R38: a frame with a job that is not overdue. -/
theorem exec_frame_job {s : State} (hrun : s.inReset = false) (hquiet : s.Quiet)
    (hpos : s.bus.framePos < s.bus.epoch.frames) {j : Job} (hactive : s.service.active = some j)
    (h : j.overdue = false) : exec .frame s =
      let u := s.sent fun n => if n = j.slot then s.part j else (0xFF, .idle)
      match j.phase with
      | .sending => if j.phase = .sending ∧ 0 < (s.slot j.slot).idleOwed then .next u
        else .next (u.setActive (some { j with count := j.count + 1 }))
      | .ending 0 => .next (u.setActive (some { j with phase := .ending 1 }))
      | .ending 1 => .next (u.setActive (some { j with phase := .ending 2 }))
      | .ending _ => .next (u.setActive (some { j with phase := .receiving, count := 1, prev := none }))
      | .receiving => .next (u.setActive (some { j with count := j.count + 1 }))
      | .aborting 0 => .next (u.setActive (some { j with phase := .aborting 1 }))
      | .aborting _ => .next (u.endJob .aborted).flushPrompts := by
  rw [exec_frame hrun, State.newFrame_of_job hactive h hpos,
    State.serviceSent_flush (u := s.sent fun n => if n = j.slot then s.part j else (0xFF, .idle)) hquiet hactive
      (s.jobWaits_iff j)]
  dsimp only
  cases j.phase with
  | sending => exact apply_ite Host.Outcome.next _ _ _
  | ending k =>
    match k with
    | 0 => rfl
    | 1 => rfl
    | n + 2 => rfl
  | receiving => rfl
  | aborting k =>
    match k with
    | 0 => rfl
    | n + 1 => rfl

/-- Settles O22: the fields of the frame, and then the phase of the active job. -/
theorem frameSendsEffectiveCommands : Obligations.FrameSendsEffectiveCommands := by
  unfold Obligations.FrameSendsEffectiveCommands
  refine ⟨fun s hrun hquiet hpos => ⟨fun hactive => ?idle, fun j hactive => ⟨fun hphase hcount =>
    exec_frame_overdue hrun hactive (Job.overdue_of_due hphase hcount), fun hdue =>
    exec_frame_job hrun hquiet hpos hactive (eq_false_of_ne_true fun h => hdue (j.overdue_iff.mp h))⟩⟩,
    fun j => ⟨fun h => ?_, fun h => ?_, fun c h hc => ?_⟩⟩
  case idle =>
    rw [exec_frame hrun, State.newFrame_of_idle hactive hpos]
    exact congrArg Host.Outcome.next (State.flushPrompts_quiet (s := s.sent fun _ => (0xFF, .idle)) hquiet)
  · rw [Job.message, h]
  · rw [Job.message, h]
  · rw [Job.message, h, hc]
    rfl

end Sys2Proof.Machine
end

section
/-!
PATCH_POINT and UNPATCH (O18, O19).
-/
namespace Sys2Proof.Machine

open Sys2Proof

/-! ## Operations after an arrival -/

theorem State.touched_left (s : State) (q : Port) (p : PointId) : (s.touched q).left p = (s.left p).touched q := by
  unfold State.left
  rw [State.touched_point]
  split <;> rfl

theorem State.touched_startPortJob (l : List PortEntry) (s : State) (q : Port) :
    (s.touched q).startPortJob l = (s.startPortJob l).touched q := by
  induction l generalizing s with
  | nil => rfl
  | cons e rest ih =>
    rw [State.startPortJob, State.startPortJob, State.touched_point, State.touched_notify, ih]
    split_ifs <;> rfl

theorem State.touched_startJob (s : State) (q : Port) : (s.touched q).startJob = s.startJob.touched q := by
  unfold State.startJob
  rw [State.touched_service, State.touched_startPortJob]
  split <;> rfl

theorem State.touched_detach {s : State} {p : PointId} (h : s.pointActive p = false) (q : Port) :
    (s.touched q).detach p = (s.detach p).touched q := by
  rw [State.detach_eq h, State.detach_eq (s := s.touched q) h, State.touched_left, State.touched_setPoint,
    State.touched_point]

/-! ## A point given a new identity (R16) -/

/-- A point's record after R16 steps 1 to 3. -/
def PointRec.repatched (r : PointRec) (i : Option Identity) (lo hi trim : Int) : PointRec :=
  { r.detached with identity := i, softMin := lo, softMax := hi, trim := trim }

/-- R16 steps 1 to 3. -/
def State.repatched (s : State) (p : PointId) (i : Option Identity) (lo hi trim : Int) : State :=
  (s.left p).setPoint p ((s.point p).repatched i lo hi trim)

/-- R16 step 4 for the FOREIGN slot that carries the identity. -/
def State.rejoined (s : State) (p : PointId) (n : SlotId) : State :=
  (s.bind p n).setJoinList (s.service.joinList ++ [⟨n, .calibration⟩])

theorem State.rejoined_setPoint (t : State) (p : PointId) (r : PointRec) (n : SlotId) :
    (t.setPoint p r).rejoined p n = ((((t.setPoint p r).setSlot n ((t.slot n).boundTo p)).setPoint p
      (r.boundTo n)).notifyAll .nodeJoined (.point p)).setJoinList (t.service.joinList ++ [⟨n, .calibration⟩]) := by
  rw [State.rejoined, State.bind_eq, State.linked, State.setPoint_point, if_pos rfl]
  rfl

theorem State.repatch_eq {s : State} {p : PointId} (h : s.pointActive p = false) (x : Identity) (lo hi trim : Int) :
    s.repatch p x lo hi trim = match (s.repatched p (some x) lo hi trim).foreignSlot x with
      | some n => ((s.repatched p (some x) lo hi trim).rejoined p n).startJob
      | none => s.repatched p (some x) lo hi trim := by
  have hstep : (s.detach p).setPoint p { (s.detach p).point p with
      identity := some x, softMin := lo, softMax := hi, trim := trim } = s.repatched p (some x) lo hi trim := by
    rw [State.detach_point h, if_pos rfl, State.detach_eq h, State.setPoint_setPoint]
    rfl
  rw [State.repatch]
  dsimp only
  rw [hstep]
  rfl

theorem State.touched_foreignSlot (s : State) (q : Port) (x : Identity) :
    (s.touched q).foreignSlot x = s.foreignSlot x := rfl

theorem State.touched_rejoined (s : State) (q : Port) (p : PointId) (n : SlotId) :
    (s.touched q).rejoined p n = (s.rejoined p n).touched q := rfl

theorem State.repatch_touched {s : State} {p : PointId} (h : s.pointActive p = false) (q : Port) (x : Identity)
    (lo hi trim : Int) : (s.touched q).repatch p x lo hi trim = (s.repatch p x lo hi trim).touched q := by
  have hstep : (s.touched q).repatched p (some x) lo hi trim = (s.repatched p (some x) lo hi trim).touched q := by
    rw [State.repatched, State.touched_left, State.touched_setPoint]
    rfl
  rw [State.repatch_eq h, State.repatch_eq (s := s.touched q) h, hstep]
  rw [State.touched_foreignSlot]
  cases (s.repatched p (some x) lo hi trim).foreignSlot x with
  | none => rfl
  | some n =>
    dsimp only
    rw [State.touched_rejoined, State.touched_startJob]

theorem State.foreignSlot_eq_none {s : State} {x : Identity}
    (h : ∀ k, ¬ ((s.slot k).state = .foreign ∧ (s.slot k).identity = some x)) : s.foreignSlot x = none := by
  rw [State.foreignSlot, List.find?_eq_none]
  exact fun k _ => by simpa using h k

theorem State.foreignSlot_eq_some {s : State} {x : Identity} {n : SlotId}
    (hlow : ∀ k, k < n → ¬ ((s.slot k).state = .foreign ∧ (s.slot k).identity = some x))
    (hforeign : (s.slot n).state = .foreign) (hidentity : (s.slot n).identity = some x) : s.foreignSlot x = some n := by
  rw [State.foreignSlot, List.find?_eq_some_iff_getElem]
  refine ⟨by simp [hforeign, hidentity], n.val, by simp [allSlots], by simp [allSlots], fun k hk => ?_⟩
  have hnot := not_and_or.mp (hlow ⟨k, hk.trans n.isLt⟩ hk)
  simpa [allSlots] using hnot

/-! ## The checks of PATCH_POINT (R14) -/

theorem State.identityTaken_iff (s : State) (p : PointId) (x : Identity) :
    s.identityTaken p x = true ↔ ∃ p', p' ≠ p ∧ (s.point p').identity = some x := by
  simp [State.identityTaken, allPoints]

/-- A group of the point that is MOVING or STOPPING. -/
theorem State.pointActive_of_group {s : State} {p : PointId} {g : GroupId} (hg : (s.point p).group = some g)
    (hstate : (s.group g).state = .moving ∨ (s.group g).state = .stopping) : s.pointActive p = true :=
  (s.pointActive_iff p).mpr ⟨g, hg, hstate⟩

theorem State.pointRest_of_groups {s : State} {p : PointId} (h : ∀ g, (s.point p).group = some g →
    (s.group g).state ≠ .moving ∧ (s.group g).state ≠ .stopping) : s.pointActive p = false :=
  eq_false_of_ne_true fun hactive => by
    obtain ⟨g, hg, hstate⟩ := (s.pointActive_iff p).mp hactive
    exact hstate.elim (h g hg).1 (h g hg).2

section Checks

variable {s : State} {b : Byte} {p : PointId} (hb : pointOf b = some p) {x : Identity} {lo hi : Word24} {trim : Word16}
include hb

theorem reqPatchPoint_invalid (hx : x = 0 ∨ x = 0xFFFFFFFF) : reqPatchPoint b x lo hi trim s = s.deny .badArgument := by
  simp only [reqPatchPoint, hb]
  exact if_pos hx

theorem reqPatchPoint_limits (hlimits : clamp (-1000) 66535 hi.toInt < clamp (-1000) 66535 lo.toInt + 100) :
    reqPatchPoint b x lo hi trim s = s.deny .badArgument := by
  simp only [reqPatchPoint, hb, if_pos hlimits, ite_self]

theorem reqPatchPoint_taken (htaken : s.identityTaken p x = true) :
    reqPatchPoint b x lo hi trim s = s.deny .badArgument := by
  simp only [reqPatchPoint, hb, if_pos htaken, ite_self]

variable (hx : ¬ (x = 0 ∨ x = 0xFFFFFFFF))
  (hlimits : ¬ clamp (-1000) 66535 hi.toInt < clamp (-1000) 66535 lo.toInt + 100) (htaken : ¬ s.identityTaken p x = true)
include hx hlimits htaken

theorem reqPatchPoint_eq : reqPatchPoint b x lo hi trim s =
    if s.pointActive p then s.deny .busy
    else if (s.point p).identity = some x then
      (s.setPoint p { s.point p with
        softMin := clamp (-1000) 66535 lo.toInt
        softMax := clamp (-1000) 66535 hi.toInt
        trim := clamp (-1000) 1000 trim.toInt }).directoryReply p
    else (s.repatch p x (clamp (-1000) 66535 lo.toInt) (clamp (-1000) 66535 hi.toInt)
      (clamp (-1000) 1000 trim.toInt)).directoryReply p := by
  simp only [reqPatchPoint, hb, if_neg hx, if_neg hlimits, if_neg htaken]

end Checks

/-! ## Accepted (R14 to R16) -/

section Accepted

variable {s : State} {q : Port} (htakes : s.Takes q) (tag : Byte) {b : Byte} {p : PointId} (hb : pointOf b = some p)
  {x : Identity} {lo hi : Word24} {trim : Word16} (hx : ¬ (x = 0 ∨ x = 0xFFFFFFFF))
  (hlimits : ¬ clamp (-1000) 66535 hi.toInt < clamp (-1000) 66535 lo.toInt + 100) (htaken : ¬ s.identityTaken p x = true)
  (hrest : s.pointActive p = false)
include htakes hb hx hlimits htaken hrest

theorem exec_patchPoint_own (hown : (s.point p).identity = some x) : exec (.patchPoint q tag b x lo hi trim) s =
    .next ((s.setPoint p { s.point p with
        softMin := clamp (-1000) 66535 lo.toInt
        softMax := clamp (-1000) 66535 hi.toInt
        trim := clamp (-1000) 1000 trim.toInt }).answered q 0x90 tag
      ([0, 1] ++ bytes4 x ++ int3 (clamp (-1000) 66535 lo.toInt) ++ int3 (clamp (-1000) 66535 hi.toInt) ++
        int2 (clamp (-1000) 1000 trim.toInt) ++ [optSlot (s.point p).boundSlot, optSlot (s.point p).lastSlot])) := by
  refine congrArg Host.Outcome.next (State.request_calm htakes 0x10 tag _ (s.setPoint p _) (.ok _) htakes.quiet ?_)
  rw [reqPatchPoint_eq (s := s.touched q) hb hx hlimits htaken, State.touched_pointActive, hrest, State.touched_point,
    if_neg nofun, if_pos hown, State.touched_setPoint, State.directoryReply, State.touched_point, State.setPoint_point,
    if_pos rfl, PointRec.directoryBytes, hown]
  rfl

/-- R16 with the state and point record that its steps leave. -/
theorem exec_patchPoint_new (hnew : (s.point p).identity ≠ some x) {u : State}
    (hu : s.repatch p x (clamp (-1000) 66535 lo.toInt) (clamp (-1000) 66535 hi.toInt) (clamp (-1000) 1000 trim.toInt) = u) :
    exec (.patchPoint q tag b x lo hi trim) s = .next (u.answered q 0x90 tag (0 :: (u.point p).directoryBytes)).flushPrompts := by
  refine congrArg Host.Outcome.next (State.request_effect htakes 0x10 tag _ u (.ok (u.point p).directoryBytes) ?_)
  rw [reqPatchPoint_eq (s := s.touched q) hb hx hlimits htaken, State.touched_pointActive, hrest, State.touched_point,
    if_neg nofun, if_neg hnew, State.repatch_touched hrest, hu]
  rfl

/-- R16 step 4: the point is bound to the FOREIGN slot that carries its new identity. -/
theorem exec_patchPoint_foreign (hnew : (s.point p).identity ≠ some x) {u : State}
    (hu : s.repatched p (some x) (clamp (-1000) 66535 lo.toInt) (clamp (-1000) 66535 hi.toInt)
      (clamp (-1000) 1000 trim.toInt) = u) {n : SlotId} (hn : u.foreignSlot x = some n) :
    exec (.patchPoint q tag b x lo hi trim) s = .next ((u.rejoined p n).startJob.answered q 0x90 tag
      (0 :: ((u.point p).boundTo n).directoryBytes)).flushPrompts := by
  have hpoint : ((u.rejoined p n).startJob).point p = (u.point p).boundTo n := by
    rw [State.point, (State.startJob_serves (u.rejoined p n)).points]
    exact (State.setPoint_point ..).trans (if_pos rfl)
  rw [exec_patchPoint_new htakes tag hb hx hlimits htaken hrest hnew (u := (u.rejoined p n).startJob) (by
    rw [State.repatch_eq hrest, hu, hn]), hpoint]

theorem exec_patchPoint_free (hnew : (s.point p).identity ≠ some x) {u : State}
    (hu : s.repatched p (some x) (clamp (-1000) 66535 lo.toInt) (clamp (-1000) 66535 hi.toInt)
      (clamp (-1000) 1000 trim.toInt) = u) (hn : u.foreignSlot x = none) :
    exec (.patchPoint q tag b x lo hi trim) s =
      .next (u.answered q 0x90 tag (0 :: (u.point p).directoryBytes)).flushPrompts :=
  exec_patchPoint_new htakes tag hb hx hlimits htaken hrest hnew (by rw [State.repatch_eq hrest, hu, hn])

end Accepted

theorem PointRec.repatched_eq {r : PointRec} (hraw : r.boundSlot = none → r.raw = none) (i : Option Identity)
    (lo hi trim : Int) : r.repatched i lo hi trim = { r with
      identity := i, softMin := lo, softMax := hi, trim := trim, boundSlot := none, raw := none
      load := { r.load with cal := none, calFault := false, window := [], discardNext := true, value := .absent } } := by
  have hnone : (if r.boundSlot.isSome then none else r.raw) = none := by
    split_ifs with hbound
    · rfl
    · exact hraw (by simpa using hbound)
  rw [PointRec.repatched, PointRec.detached, hnone]
  rfl

/-- Settles O18: the checks in their order, and R16 by its steps. -/
theorem patchPointChecksAndBinds : Obligations.PatchPointChecksAndBinds := by
  unfold Obligations.PatchPointChecksAndBinds
  refine ⟨fun s q tag b x lo hi tr htakes => ?refused, fun s q tag b x lo hi tr p htakes hbinding hb hx0 hx1 hlimits hfree
    hrest => ?accepted⟩
  case refused =>
    have hno : ∀ r : Reject, reqPatchPoint b x lo hi tr (s.touched q) = (s.touched q).deny r →
        exec (.patchPoint q tag b x lo hi tr) s = .next (s.answered q 0x90 tag r.bytes) := fun r h =>
      congrArg Host.Outcome.next (State.request_denies htakes 0x10 tag _ r h)
    refine ⟨fun hb => hno .badArgument (by rw [reqPatchPoint, hb]), fun p hb => ⟨fun hx => hno .badArgument
      (reqPatchPoint_invalid hb hx), fun hlimits => hno .badArgument (reqPatchPoint_limits hb hlimits), fun htaken =>
      hno .badArgument (reqPatchPoint_taken hb (((s.touched q).identityTaken_iff p x).mpr htaken)),
      fun hx0 hx1 hlimits hfree g hg hstate => hno .busy ?_⟩⟩
    rw [reqPatchPoint_eq hb (not_or.mpr ⟨hx0, hx1⟩) (not_lt.mpr hlimits) (fun h => by
      obtain ⟨p', hp', hid⟩ := ((s.touched q).identityTaken_iff p x).mp h
      exact hfree p' hp' hid), if_pos (State.pointActive_of_group (s := s.touched q) hg hstate)]
  case accepted =>
    have hx := not_or.mpr ⟨hx0, hx1⟩
    have hlimits' := not_lt.mpr hlimits
    have htaken : ¬ s.identityTaken p x = true := fun h => by
      obtain ⟨p', hp', hid⟩ := (s.identityTaken_iff p x).mp h
      exact hfree p' hp' hid
    have hrest' := State.pointRest_of_groups hrest
    have hraw : (s.point p).boundSlot = none → (s.point p).raw = none := fun h =>
      by_contra fun hr => hbinding.raw p hr h
    have hu : s.repatched p (some x) (clamp (-1000) 66535 lo.toInt) (clamp (-1000) 66535 hi.toInt)
        (clamp (-1000) 1000 tr.toInt) = _ := congrArg ((s.left p).setPoint p) (PointRec.repatched_eq hraw ..)
    refine ⟨fun hown => (exec_patchPoint_own htakes tag hb hx hlimits' htaken hrest' hown).trans ?_, fun hnew => ⟨fun n hlow hforeign hidentity => ?_,
      fun hnone => ?_⟩⟩
    · dsimp only
      rw [State.setPoint_point, if_pos rfl]
      rfl
    · refine (exec_patchPoint_foreign htakes tag hb hx hlimits' htaken hrest' hnew hu
        (State.foreignSlot_eq_some hlow hforeign hidentity)).trans ?_
      rw [State.rejoined_setPoint]
      simp only [State.setPoint_point, if_true, State.notifyAll_point]
      rfl
    · refine (exec_patchPoint_free htakes tag hb hx hlimits' htaken hrest' hnew hu
        (State.foreignSlot_eq_none hnone)).trans ?_
      simp only [State.setPoint_point, if_true]
      rfl

/-! ## UNPATCH (R17) -/

section Unpatch

variable {s : State} {b : Byte} {p : PointId} (hb : pointOf b = some p) (hrest : s.pointActive p = false)
include hb hrest

theorem reqUnpatch_unpatched (hnone : (s.point p).identity = none) : reqUnpatch b s = s.directoryReply p := by
  simp [reqUnpatch, hb, hrest, hnone]

theorem reqUnpatch_patched (hsome : (s.point p).identity ≠ none) : reqUnpatch b s =
    (s.repatched p none (s.point p).softMin (s.point p).softMax (s.point p).trim).directoryReply p := by
  have hstep : (s.detach p).setPoint p { (s.detach p).point p with identity := none } =
      s.repatched p none (s.point p).softMin (s.point p).softMax (s.point p).trim := by
    rw [State.detach_point hrest, if_pos rfl, State.detach_eq hrest, State.setPoint_setPoint]
    rfl
  simp [reqUnpatch, hb, hrest, hsome, hstep]

end Unpatch

/-- Settles O19: an active group, an unpatched point, or R16's steps 1 and 2 with no identity after them. -/
theorem unpatchFreesThePoint : Obligations.UnpatchFreesThePoint := by
  unfold Obligations.UnpatchFreesThePoint
  intro s q tag b htakes
  refine ⟨fun hb => congrArg Host.Outcome.next (State.request_denies htakes 0x11 tag _ .badArgument (by rw [reqUnpatch, hb])),
    fun p hb => ⟨fun g hg hstate => ?busy, fun hgroups => ⟨fun hnone => ?unpatched, fun hsome hraw => ?patched⟩⟩⟩
  case busy =>
    refine congrArg Host.Outcome.next (State.request_denies htakes 0x11 tag _ .busy ?_)
    simp only [reqUnpatch, hb]
    exact if_pos (State.pointActive_of_group (s := s.touched q) hg hstate)
  all_goals have hrest := State.pointRest_of_groups hgroups
  case unpatched =>
    refine congrArg Host.Outcome.next ((State.request_answers htakes 0x11 tag _ (.ok (s.point p).directoryBytes)
      (reqUnpatch_unpatched (s := s.touched q) hb hrest hnone)).trans ?_)
    rw [PointRec.directoryBytes, hnone]
    rfl
  case patched =>
    have hraw' : (s.point p).boundSlot = none → (s.point p).raw = none := fun h => hraw.resolve_left (not_not.mpr h)
    have hstep : (s.touched q).repatched p none (s.point p).softMin (s.point p).softMax (s.point p).trim =
        (s.repatched p none (s.point p).softMin (s.point p).softMax (s.point p).trim).touched q := by
      rw [State.repatched, State.touched_left, State.touched_setPoint]
      rfl
    have hpoint : (s.repatched p none (s.point p).softMin (s.point p).softMax (s.point p).trim).point p =
        (s.point p).repatched none (s.point p).softMin (s.point p).softMax (s.point p).trim := by
      rw [State.repatched, State.setPoint_point, if_pos rfl]
    refine congrArg Host.Outcome.next ((State.request_effect htakes 0x11 tag _ _ (.ok _)
      ((reqUnpatch_patched (s := s.touched q) hb hrest hsome).trans (by rw [State.touched_point, hstep]; rfl))).trans ?_)
    rw [State.touched_point, hpoint, State.repatched, PointRec.repatched_eq hraw']
    rfl

end Sys2Proof.Machine
end

section
/-!
TARE, CAL_WRITE and CAL_READ (O32).
-/
namespace Sys2Proof.Machine

open Sys2Proof

/-! ## The checks they share (R54 to R56) -/

section Serviceable

variable {s : State} {p : PointId} (k : SlotId → Answer)

theorem State.serviceable_active (h : s.pointActive p = true) : s.serviceable p k = s.deny .busy := if_pos h

theorem State.serviceable_unbound (h : s.pointActive p = false) (hbound : (s.point p).boundSlot = none) :
    s.serviceable p k = s.deny (.notReady .unbound (some p)) := by
  rw [State.serviceable, h, hbound]
  rfl

theorem State.serviceable_bound (h : s.pointActive p = false) {n : SlotId} (hbound : (s.point p).boundSlot = some n) :
    s.serviceable p k = k n := by
  rw [State.serviceable, h, hbound]
  rfl

end Serviceable

theorem State.queueFull_iff (s : State) (q : Port) : s.queueFull q = true ↔
    2 ≤ (s.service.portQueue.filter fun e => e.port == q).length ∨ 6 ≤ s.service.portQueue.length := by
  simp [State.queueFull]

theorem State.touched_queueEntry (s : State) (q : Port) (e : PortEntry) :
    (s.touched q).queueEntry e = (s.queueEntry e).touched q := by
  rw [State.queueEntry, State.touched_service, State.touched_setPortQueue, State.touched_startJob]
  rfl

section Queued

variable {s : State} {q : Port} (htakes : s.Takes q) (typ tag : Byte) {body : State → Answer} {e : PortEntry}
  {data : List Byte} (hbody : body (s.touched q) = (s.touched q).queueJob e data)
include htakes hbody

theorem State.request_queueFull (hfull : s.queueFull e.port = true) :
    s.request q typ tag body = s.answered q (typ ||| 0x80) tag [9] :=
  State.request_denies htakes typ tag _ .full (hbody.trans (if_pos hfull))

theorem State.request_queues (hroom : s.queueFull e.port = false) :
    s.request q typ tag body = ((s.queueEntry e).answered q (typ ||| 0x80) tag (0 :: data)).flushPrompts := by
  refine State.request_effect htakes typ tag _ (s.queueEntry e) (.ok data) (hbody.trans ?_)
  rw [← State.touched_queueEntry]
  exact if_neg (ne_true_of_eq_false hroom)

end Queued

/-! ## Each request -/

section Requests

variable {s : State} {q : Port} {b : Byte} {p : PointId} (hb : pointOf b = some p)
include hb

theorem reqTare_eq : reqTare q b s = s.serviceable p fun n => match (s.point p).load.cal with
    | none => s.deny (.notReady .noCalibration (some p))
    | some c =>
      if (s.point p).load.tareable then
        s.queueJob ⟨q, p, n, some { c with zero := tareZero (s.point p).load.window }⟩
          (nat2 (tareZero (s.point p).load.window))
      else s.deny (.notReady .window (some p)) := by
  simp only [reqTare, hb] <;> rfl

theorem reqCalRead_eq : reqCalRead q b s = s.serviceable p fun n => s.queueJob ⟨q, p, n, none⟩ [] := by
  rw [reqCalRead, hb]

theorem reqCalWrite_eq {zero span wll : Word16}
    (hrange : (⟨zero.toNat, span.toNat, wll.toNat⟩ : Cal).inRange = true) : reqCalWrite q b zero span wll s =
      s.serviceable p fun n => s.queueJob ⟨q, p, n, some ⟨zero.toNat, span.toNat, wll.toNat⟩⟩ [] := by
  simp only [reqCalWrite, hb]
  exact if_pos hrange

end Requests

theorem reqCalWrite_range {zero span wll : Word16} (hrange : ¬ (⟨zero.toNat, span.toNat, wll.toNat⟩ : Cal).inRange = true)
    (q : Port) (b : Byte) (s : State) : reqCalWrite q b zero span wll s = s.deny .badArgument := by
  unfold reqCalWrite
  dsimp only
  split
  · rfl
  · exact if_neg hrange

theorem LoadPart.tareable_iff (l : LoadPart) : l.tareable = true ↔ l.window.length = 8 ∧ ∀ r ∈ l.window, r ≠ 4095 := by
  rw [LoadPart.tareable, Bool.and_eq_true, decide_eq_true_iff, List.all_eq_true]
  simp [Config.windowSize]

/-- Settles O32: the shared checks, the checks of TARE, and the room in the queue. -/
theorem calibrationRequestsAreQueued : Obligations.CalibrationRequestsAreQueued := by
  unfold Obligations.CalibrationRequestsAreQueued
  intro s q tag b zero span wll htakes
  have hrange := Cal.inRange_iff ⟨zero.toNat, span.toNat, wll.toNat⟩
  have htare : ∀ r : Reject, reqTare q b (s.touched q) = (s.touched q).deny r →
      exec (.tare q tag b) s = .next (s.answered q 0xA0 tag r.bytes) := fun r h =>
    congrArg Host.Outcome.next (State.request_denies htakes 0x20 tag _ r h)
  have hwrite : ∀ r : Reject, reqCalWrite q b zero span wll (s.touched q) = (s.touched q).deny r →
      exec (.calWrite q tag b zero span wll) s = .next (s.answered q 0xA1 tag r.bytes) := fun r h =>
    congrArg Host.Outcome.next (State.request_denies htakes 0x21 tag _ r h)
  have hread : ∀ r : Reject, reqCalRead q b (s.touched q) = (s.touched q).deny r →
      exec (.calRead q tag b) s = .next (s.answered q 0xA2 tag r.bytes) := fun r h =>
    congrArg Host.Outcome.next (State.request_denies htakes 0x22 tag _ r h)
  refine ⟨fun hb => ?noPoint, fun hout => hwrite .badArgument (reqCalWrite_range (fun h => hout (hrange.mp h)) q b _),
    fun p hb => ⟨fun g hg hstate => ?busy, fun hgroups => ⟨fun hunbound => ?unbound, fun n hbound => ?bound⟩⟩⟩
  case noPoint =>
    refine ⟨htare .badArgument (by rw [reqTare, hb]), hwrite .badArgument ?_, hread .badArgument (by rw [reqCalRead, hb])⟩
    simp only [reqCalWrite, hb]
  case busy =>
    have hactive : (s.touched q).pointActive p = true := State.pointActive_of_group (s := s) hg hstate
    refine ⟨htare .busy ((reqTare_eq hb).trans (State.serviceable_active _ hactive)), fun hin => hwrite .busy
      ((reqCalWrite_eq hb (hrange.mpr hin)).trans (State.serviceable_active _ hactive)), hread .busy
      ((reqCalRead_eq hb).trans (State.serviceable_active _ hactive))⟩
  all_goals
    have hrest : (s.touched q).pointActive p = false := State.pointRest_of_groups (s := s) hgroups
  case unbound =>
    exact ⟨htare (.notReady .unbound (some p)) ((reqTare_eq hb).trans (State.serviceable_unbound _ hrest hunbound)),
      fun hin => hwrite (.notReady .unbound (some p))
        ((reqCalWrite_eq hb (hrange.mpr hin)).trans (State.serviceable_unbound _ hrest hunbound)),
      hread (.notReady .unbound (some p)) ((reqCalRead_eq hb).trans (State.serviceable_unbound _ hrest hunbound))⟩
  case bound =>
    have hgood := (s.point p).load.tareable_iff
    have hfull := s.queueFull_iff q
    have htareBody := (reqTare_eq (s := s.touched q) (q := q) hb).trans (State.serviceable_bound _ hrest hbound)
    have hreadBody := (reqCalRead_eq (s := s.touched q) (q := q) hb).trans (State.serviceable_bound _ hrest hbound)
    have hwriteBody := fun h => (reqCalWrite_eq (s := s.touched q) (q := q) hb (zero := zero) (span := span) (wll := wll)
      h).trans (State.serviceable_bound _ hrest hbound)
    have htareQueues : ∀ c, (s.point p).load.cal = some c → (s.point p).load.tareable = true →
        reqTare q b (s.touched q) = (s.touched q).queueJob
          ⟨q, p, n, some { c with zero := tareZero (s.point p).load.window }⟩ (nat2 (tareZero (s.point p).load.window)) :=
      fun c hc hgood' => htareBody.trans (by
        simp only [State.touched_point, hc]
        exact if_pos hgood')
    refine ⟨fun hnone => htare (.notReady .noCalibration (some p)) (htareBody.trans ?_), fun hcal hbad =>
      htare (.notReady .window (some p)) (htareBody.trans ?_), fun h => ⟨fun hcal hg => ?_, fun hin => ?_, ?_⟩, fun h =>
      ⟨fun c hc hg => ?_, fun hin => ?_, ?_⟩⟩
    · simp only [State.touched_point, hnone]
    · obtain ⟨c, hc⟩ := Option.ne_none_iff_exists'.mp hcal
      simp only [State.touched_point, hc]
      exact if_neg fun ht => hbad (hgood.mp ht)
    · obtain ⟨c, hc⟩ := Option.ne_none_iff_exists'.mp hcal
      exact congrArg Host.Outcome.next (State.request_queueFull htakes 0x20 tag (htareQueues c hc (hgood.mpr hg)) (hfull.mpr h))
    · exact congrArg Host.Outcome.next (State.request_queueFull htakes 0x21 tag (hwriteBody (hrange.mpr hin)) (hfull.mpr h))
    · exact congrArg Host.Outcome.next (State.request_queueFull htakes 0x22 tag hreadBody (hfull.mpr h))
    all_goals have hroom : s.queueFull q = false := eq_false_of_ne_true fun hf => h (hfull.mp hf)
    · exact congrArg Host.Outcome.next (State.request_queues htakes 0x20 tag (htareQueues c hc (hgood.mpr hg)) hroom)
    · exact congrArg Host.Outcome.next (State.request_queues htakes 0x21 tag (hwriteBody (hrange.mpr hin)) hroom)
    · exact congrArg Host.Outcome.next (State.request_queues htakes 0x22 tag hreadBody hroom)

end Sys2Proof.Machine
end

section
/-!
Load sample arrivals and the load settings (O31, O33).
-/
namespace Sys2Proof.Machine

open Sys2Proof

/-! ## The load conditions (R59, R60) -/

theorem State.evaluateOverload_none {s : State} {p : PointId} {c : Condition}
    (h : (s.point p).load.overload.evaluate (s.point p).load.aboveHigh (s.point p).load.atHighExit (s.point p).load.alarm =
      (c, .none)) : s.evaluateOverload p = s.setLoad p { (s.point p).load with overload := c } := by
  simp only [State.evaluateOverload, h]

theorem State.evaluateOverload_cleared {s : State} {p : PointId} {c : Condition}
    (h : (s.point p).load.overload.evaluate (s.point p).load.aboveHigh (s.point p).load.atHighExit (s.point p).load.alarm =
      (c, .cleared)) : s.evaluateOverload p =
      (s.setLoad p { (s.point p).load with overload := c }).notifyAll .overloadCleared (.point p) := by
  simp only [State.evaluateOverload, h]

theorem State.evaluateOverload_entered {s : State} {p : PointId} {c : Condition}
    (h : (s.point p).load.overload.evaluate (s.point p).load.aboveHigh (s.point p).load.atHighExit (s.point p).load.alarm =
      (c, .entered)) : s.evaluateOverload p =
      ((s.setLoad p { (s.point p).load with overload := c }).notifyAll .overload (.point p)).faultPoint p .overload := by
  simp only [State.evaluateOverload, h]

theorem State.evaluateUnderload_none {s : State} {p : PointId} {c : Condition}
    (h : (s.point p).load.underload.evaluate (s.point p).load.belowLow (s.point p).load.atLowExit (s.point p).load.alarm =
      (c, .none)) : s.evaluateUnderload p = s.setLoad p { (s.point p).load with underload := c } := by
  simp only [State.evaluateUnderload, h]

theorem State.evaluateUnderload_cleared {s : State} {p : PointId} {c : Condition}
    (h : (s.point p).load.underload.evaluate (s.point p).load.belowLow (s.point p).load.atLowExit (s.point p).load.alarm =
      (c, .cleared)) : s.evaluateUnderload p =
      (s.setLoad p { (s.point p).load with underload := c }).notifyAll .underloadCleared (.point p) := by
  simp only [State.evaluateUnderload, h]

theorem State.evaluateUnderload_entered {s : State} {p : PointId} {c : Condition}
    (h : (s.point p).load.underload.evaluate (s.point p).load.belowLow (s.point p).load.atLowExit (s.point p).load.alarm =
      (c, .entered)) : s.evaluateUnderload p =
      ((s.setLoad p { (s.point p).load with underload := c }).notifyAll .underload (.point p)).underloadFault p := by
  simp only [State.evaluateUnderload, h]

section Evaluate

variable {c : Condition} {mode : AlarmMode}

theorem Condition.evaluate_enters (hactive : c.active = false) (leave : Bool) :
    c.evaluate true leave mode = (⟨true, false⟩, .entered) := by
  simp [Condition.evaluate, hactive]

theorem Condition.evaluate_stays (hactive : c.active = false) (leave : Bool) :
    c.evaluate false leave mode = (⟨false, false⟩, .none) := by
  simp [Condition.evaluate, hactive]

theorem Condition.evaluate_crosses (hactive : c.active = true) :
    c.evaluate false true .cross = (⟨false, false⟩, .cleared) := by
  simp [Condition.evaluate, hactive]

/-- Table 3-3: an ACTIVE condition raises a notice only when it ends in CROSS. -/
theorem Condition.evaluate_silent (hactive : c.active = true) {enter leave : Bool}
    (h : leave = false ∨ mode ≠ .cross) : (c.evaluate enter leave mode).2 = .none := by
  unfold Condition.evaluate
  rw [if_pos hactive]
  cases enter
  · cases leave
    · rfl
    · cases mode <;> simp_all
  · rfl

/-- Table 3-3: what an evaluation leaves of a condition. -/
theorem Condition.evaluate_fst (enter leave : Bool) : (c.evaluate enter leave mode).1 =
    if enter then ⟨true, false⟩
    else if ¬ c.active then ⟨false, false⟩
    else if leave then (if mode = .latch then ⟨true, true⟩ else ⟨false, false⟩)
    else c := by
  unfold Condition.evaluate
  cases c.active <;> cases enter <;> cases leave <;> cases mode <;> simp

end Evaluate

theorem LoadPart.atHighExit_iff (l : LoadPart) :
    l.atHighExit = true ↔ ∃ v : Int, l.value = .kg v ∧ v ≤ (l.high : Int) - (l.hyst : Int) := by
  unfold LoadPart.atHighExit
  cases l.value <;> simp

theorem LoadPart.aboveHigh_eq_false_iff (l : LoadPart) :
    l.aboveHigh = false ↔ l.value ≠ .over ∧ ∀ v : Int, l.value = .kg v → v ≤ (l.high : Int) := by
  unfold LoadPart.aboveHigh
  cases l.value <;> simp

theorem LoadPart.atLowExit_iff (l : LoadPart) : l.atLowExit = true ↔
    l.value = .over ∨ ∃ v : Int, l.value = .kg v ∧ (l.low : Int) + (l.hyst : Int) ≤ v := by
  unfold LoadPart.atLowExit
  cases l.value <;> simp

theorem LoadPart.not_above_of_exit {l : LoadPart} (h : l.atHighExit = true) : l.aboveHigh = false := by
  obtain ⟨v, hv, hle⟩ := l.atHighExit_iff.mp h
  refine l.aboveHigh_eq_false_iff.mpr ⟨by rw [hv]; nofun, fun w hw => ?_⟩
  cases hv.symm.trans hw
  omega

theorem LoadPart.not_below_of_exit {l : LoadPart} (h : l.atLowExit = true) : l.belowLow = false := by
  unfold LoadPart.belowLow
  rcases l.atLowExit_iff.mp h with hv | ⟨v, hv, hle⟩
  · rw [hv]
  · rw [hv]
    have hnot : ¬ v < (l.low : Int) := by omega
    simp [hnot]

theorem LoadPart.not_below {l : LoadPart} (hactive : l.underload.active = false)
    (h : ∀ v : Int, l.value = .kg v → l.low = 0 ∨ (l.low : Int) ≤ v) : l.belowLow = false := by
  unfold LoadPart.belowLow
  cases hv : l.value with
  | kg v =>
    rcases h v hv with hzero | hle
    · simp [hactive, hzero]
    · simp [not_lt.mpr hle]
  | _ => rfl

theorem State.evaluateOverload_silent {s : State} {p : PointId} (hactive : (s.point p).load.overload.active = true)
    (h : (s.point p).load.atHighExit = false ∨ (s.point p).load.alarm ≠ .cross) :
    s.evaluateOverload p = { s with points := (s.evaluateOverload p).points } := by
  rw [State.evaluateOverload_none (Prod.ext rfl (Condition.evaluate_silent hactive h))]
  rfl

theorem State.evaluateUnderload_silent {s : State} {p : PointId} (hactive : (s.point p).load.underload.active = true)
    (h : (s.point p).load.atLowExit = false ∨ (s.point p).load.alarm ≠ .cross) :
    s.evaluateUnderload p = { s with points := (s.evaluateUnderload p).points } := by
  rw [State.evaluateUnderload_none (Prod.ext rfl (Condition.evaluate_silent hactive h))]
  rfl

theorem State.evaluateLoads_of_present {s : State} {p : PointId} (h : (s.point p).load.value ≠ .absent) :
    s.evaluateLoads p = (s.evaluateOverload p).evaluateUnderload p := if_neg h

theorem State.evaluateLoads_ite {s : State} {p : PointId} {v : Load} (h : (s.point p).load.value = v) :
    s.evaluateLoads p = if v = .absent then s else s.evaluateLoads p := by
  split_ifs with hv
  · exact if_pos (h.trans hv)
  · rfl

/-! ### What evaluations leave of the load part -/

theorem State.setLoad_pointGroup (s : State) (p : PointId) (l : LoadPart) :
    ((s.setLoad p l).point p).group = (s.point p).group := by
  simp [State.setLoad]

theorem State.load_of_moves {s t : State} (h : s.MovesTo t) (p : PointId) : (t.point p).load = (s.point p).load := by
  rw [State.point, h.points]
  rfl

theorem State.setLoad_load (s : State) (p : PointId) (l : LoadPart) : ((s.setLoad p l).point p).load = l := by
  simp [State.setLoad]

theorem State.evaluateOverload_load (s : State) (p : PointId) : ((s.evaluateOverload p).point p).load =
    { (s.point p).load with overload := ((s.point p).load.overload.evaluate (s.point p).load.aboveHigh
      (s.point p).load.atHighExit (s.point p).load.alarm).1 } := by
  cases h : (s.point p).load.overload.evaluate (s.point p).load.aboveHigh (s.point p).load.atHighExit
      (s.point p).load.alarm with
  | mk c event =>
    cases event with
    | none => rw [State.evaluateOverload_none h, State.setLoad_load]
    | cleared => rw [State.evaluateOverload_cleared h, State.notifyAll_point, State.setLoad_load]
    | entered =>
      rw [State.evaluateOverload_entered h, State.load_of_moves (State.faultPoint_moves ..), State.notifyAll_point,
        State.setLoad_load]

theorem State.evaluateUnderload_load (s : State) (p : PointId) : ((s.evaluateUnderload p).point p).load =
    { (s.point p).load with underload := ((s.point p).load.underload.evaluate (s.point p).load.belowLow
      (s.point p).load.atLowExit (s.point p).load.alarm).1 } := by
  cases h : (s.point p).load.underload.evaluate (s.point p).load.belowLow (s.point p).load.atLowExit
      (s.point p).load.alarm with
  | mk c event =>
    cases event with
    | none => rw [State.evaluateUnderload_none h, State.setLoad_load]
    | cleared => rw [State.evaluateUnderload_cleared h, State.notifyAll_point, State.setLoad_load]
    | entered =>
      rw [State.evaluateUnderload_entered h, State.load_of_moves (State.underloadFault_moves ..), State.notifyAll_point,
        State.setLoad_load]

/-- R50 step 4 for the load part alone. -/
def LoadPart.evaluated (l : LoadPart) : LoadPart :=
  if l.value = .absent then l
  else { l with
    overload := (l.overload.evaluate l.aboveHigh l.atHighExit l.alarm).1
    underload := (l.underload.evaluate l.belowLow l.atLowExit l.alarm).1 }

theorem State.evaluateLoads_load (s : State) (p : PointId) :
    ((s.evaluateLoads p).point p).load = (s.point p).load.evaluated := by
  unfold State.evaluateLoads LoadPart.evaluated
  split_ifs
  · rfl
  · rw [State.evaluateUnderload_load, State.evaluateOverload_load]
    rfl

/-! ## Duty (R64, R65) -/

/-- R65: the notice of a change of duty_hot. -/
def State.dutyNote (s : State) (p : PointId) (before after : Bool) : State :=
  if after = before then s
  else if after then s.notifyAll .dutyHot (.point p)
  else s.notifyAll .dutyCool (.point p)

theorem State.dutyNote_setLoad (s : State) (p : PointId) (l : LoadPart) (before after : Bool) :
    (s.setLoad p l).dutyNote p before after = (s.dutyNote p before after).setLoad p l := by
  unfold State.dutyNote
  split_ifs <;> rfl

theorem State.setLoad_setLoad (s : State) (p : PointId) (l l' : LoadPart) :
    (s.setLoad p l).setLoad p l' = s.setLoad p l' := by
  simp [State.setLoad]

theorem State.evaluateDuty_eq (s : State) (p : PointId) : s.evaluateDuty p =
    (s.setLoad p { (s.point p).load with dutyHot := (s.point p).load.hotAfter }).dutyNote p (s.point p).load.dutyHot
      (s.point p).load.hotAfter := rfl

/-- R65 for a load part that is being stored. -/
theorem State.evaluateDuty_setLoad (s : State) (p : PointId) (l : LoadPart) : (s.setLoad p l).evaluateDuty p =
    (s.setLoad p { l with dutyHot := l.hotAfter }).dutyNote p l.dutyHot l.hotAfter := by
  rw [State.evaluateDuty_eq, State.setLoad_load, State.setLoad_setLoad]

/-! ## A load sample arrival (R50) -/

theorem dutyAfter_eq (n : Nat) (c : Command) : dutyAfter n c = if c = .stop then n - 1 else min (n + 3) 65535 := by
  cases c <;> rfl

/-- R50 step 2. -/
def LoadPart.windowAfter (l : LoadPart) (r : Code) : List Code :=
  if l.discardNext then l.window else (if l.window.length < 8 then l.window else l.window.drop 1) ++ [r]

/-- R50 step 3. -/
def LoadPart.valueAfter (l : LoadPart) (r : Code) : Load :=
  match l.cal with
  | some c => if (l.windowAfter r).length = 8 then convertLoad (l.windowAfter r) c else .absent
  | none => .absent

theorem LoadPart.take_eq (l : LoadPart) (r : Code) :
    l.take r = { l with window := l.windowAfter r, discardNext := false, value := l.valueAfter r } := by
  have hwindow : (if l.discardNext then { l with discardNext := false } else { l with
      window := (if l.window.length < Config.windowSize then l.window else l.window.tail) ++ [r] } : LoadPart) =
      { l with window := l.windowAfter r, discardNext := false } := by
    obtain ⟨cal, calFault, window, discardNext, value⟩ := l
    cases discardNext
    · exact congrArg (fun w : List Code => (⟨cal, calFault, w ++ [r], false, value, _, _, _, _, _, _, _, _, _⟩ : LoadPart))
        (by rw [List.drop_one]; rfl)
    · rfl
  have hvalue : ({ l with window := l.windowAfter r, discardNext := false } : LoadPart).computed = l.valueAfter r := by
    unfold LoadPart.computed LoadPart.valueAfter
    cases l.cal with
    | none => exact ite_self _
    | some c => rfl
  rw [LoadPart.take]
  simp only [hwindow, hvalue]

/-- The load part after R64, R65 and R50 steps 2 and 3. -/
def LoadPart.arrived (l : LoadPart) (credit : Nat) (r : Code) : LoadPart :=
  { l with
    duty := credit
    dutyHot := { l with duty := credit : LoadPart }.hotAfter
    window := l.windowAfter r
    discardNext := false
    value := l.valueAfter r }

theorem State.loadArrival_eq (s : State) (n : SlotId) (p : PointId) (r : Code) : s.loadArrival n p r =
    ((((s.setLoad p ((s.point p).load.arrived (dutyAfter (s.point p).load.duty (s.effective n)) r)).dutyNote p
      (s.point p).load.dutyHot { (s.point p).load with
        duty := dutyAfter (s.point p).load.duty (s.effective n) : LoadPart }.hotAfter).evaluateLoads p)).shareArrival p := by
  rw [State.loadArrival]
  dsimp only
  rw [State.evaluateDuty_setLoad, State.dutyNote_setLoad, State.setLoad_load, State.setLoad_setLoad, LoadPart.take_eq,
    ← State.dutyNote_setLoad]
  rfl

theorem LoadPart.belowLow_eq (l : LoadPart) : l.belowLow = match l.value with
    | .kg v => decide (v < (l.low : Int)) && (l.underload.active || l.low != 0)
    | _ => false := by
  unfold LoadPart.belowLow
  cases l.value with
  | kg v =>
    dsimp only
    rw [show decide (l.low ≠ 0) = (l.low != 0) by simp [bne, BEq.beq]]
  | _ => rfl

theorem LoadPart.atHighExit_eq (l : LoadPart) : l.atHighExit = match l.value with
    | .kg v => decide (v ≤ (l.high : Int) - (l.hyst : Int))
    | _ => false := by
  unfold LoadPart.atHighExit
  cases l.value <;> rfl

/-- R50 step 4 with Table 3-3 written out. -/
theorem LoadPart.evaluated_eq (l : LoadPart) :
    let after := fun (c : Condition) (enter leave : Bool) =>
      if l.value = .absent then c
      else if enter then ⟨true, false⟩
      else if ¬ c.active then ⟨false, false⟩
      else if leave then (if l.alarm = .latch then ⟨true, true⟩ else ⟨false, false⟩)
      else c
    l.evaluated = { l with
      overload := after l.overload l.aboveHigh l.atHighExit
      underload := after l.underload l.belowLow l.atLowExit } := by
  dsimp only
  unfold LoadPart.evaluated
  by_cases h : l.value = .absent
  · simp only [if_pos h]
  · simp only [if_neg h, Condition.evaluate_fst]

/-- Settles O31: an arrival by its steps, and the two conditions by Table 3-3. -/
theorem loadArrivalsUpdateAndAlarm : Obligations.LoadArrivalsUpdateAndAlarm := by
  unfold Obligations.LoadArrivalsUpdateAndAlarm
  refine ⟨fun s n p r => ⟨?part, ?steps⟩, fun s p => ⟨fun hover hactive => ?_, fun hactive hends hcross => ?_,
    fun hactive hends hcross => ?_, fun hactive hsilent => ?_, fun hactive hsilent => ?_, fun hactive hover hbelow => ?_,
    fun hactive hbelow => ?_, State.evaluateLoads_of_present⟩, fun s p v hv => ⟨fun hhigh hactive => ?_,
    fun hlow hzero hactive => ?_, State.evaluateLoads_of_present (by rw [hv]; nofun)⟩⟩
  case part =>
    rw [State.loadArrival_eq, State.load_of_moves (State.shareArrival_moves ..), State.evaluateLoads_load,
      State.dutyNote_setLoad, State.setLoad_load, LoadPart.evaluated_eq, dutyAfter_eq, LoadPart.belowLow_eq,
      LoadPart.atHighExit_eq]
    rfl
  case steps =>
    rw [State.loadArrival_eq, dutyAfter_eq]
    refine congrArg (State.shareArrival · p) ((State.evaluateLoads_ite ?_).trans rfl)
    rw [State.dutyNote_setLoad, State.setLoad_load]
    rfl
  · exact State.evaluateOverload_entered (by
      rw [show (s.point p).load.aboveHigh = true by rw [LoadPart.aboveHigh, hover]]
      exact Condition.evaluate_enters hactive _)
  · have hexit := (s.point p).load.atHighExit_iff.mpr hends
    exact State.evaluateOverload_cleared (by
      rw [LoadPart.not_above_of_exit hexit, hexit, hcross]
      exact Condition.evaluate_crosses hactive)
  · have hexit := (s.point p).load.atLowExit_iff.mpr hends
    exact State.evaluateUnderload_cleared (by
      rw [LoadPart.not_below_of_exit hexit, hexit, hcross]
      exact Condition.evaluate_crosses hactive)
  · exact State.evaluateOverload_silent hactive (hsilent.imp_left fun h =>
      eq_false_of_ne_true fun hexit => h ((s.point p).load.atHighExit_iff.mp hexit))
  · exact State.evaluateUnderload_silent hactive (hsilent.imp_left fun h =>
      eq_false_of_ne_true fun hexit => h ((s.point p).load.atLowExit_iff.mp hexit))
  · exact State.evaluateOverload_none (by
      rw [(s.point p).load.aboveHigh_eq_false_iff.mpr ⟨hover, hbelow⟩]
      exact Condition.evaluate_stays hactive _)
  · exact State.evaluateUnderload_none (by
      rw [LoadPart.not_below hactive hbelow]
      exact Condition.evaluate_stays hactive _)
  · exact State.evaluateOverload_entered (by
      rw [show (s.point p).load.aboveHigh = true by rw [LoadPart.aboveHigh, hv]; exact decide_eq_true hhigh]
      exact Condition.evaluate_enters hactive _)
  · refine (State.evaluateUnderload_entered (c := ⟨true, false⟩) (by
      rw [show (s.point p).load.belowLow = true by
        rw [LoadPart.belowLow, hv]
        simp [hlow, hzero]]
      exact Condition.evaluate_enters hactive _)).trans ?_
    rw [State.underloadFault, State.notifyAll_point, State.setLoad_pointGroup]
    rfl

/-! ## The load settings after an arrival -/

theorem State.touched_faultGroup (s : State) (q : Port) (g : GroupId) (k : FaultKind) (p : Option PointId) :
    (s.touched q).faultGroup g k p = (s.faultGroup g k p).touched q := by
  have hport : (s.faultGroup g k p).port q = s.port q := congrArg (PerPort.get · q) (s.faultGroup_moves g k p).runs.ports
  have hnow : (s.faultGroup g k p).now = s.now := (s.faultGroup_moves g k p).runs.now
  rw [State.touched, (blind_faultGroup g k p).setPort, State.touched, hport, hnow]

theorem State.touched_faultPoint (s : State) (q : Port) (p : PointId) (k : FaultKind) :
    (s.touched q).faultPoint p k = (s.faultPoint p k).touched q := by
  unfold State.faultPoint
  rw [State.touched_point]
  cases (s.point p).group with
  | none => rfl
  | some g => exact s.touched_faultGroup q g k (some p)

theorem State.touched_underloadFault (s : State) (q : Port) (p : PointId) :
    (s.touched q).underloadFault p = (s.underloadFault p).touched q := by
  unfold State.underloadFault
  rw [State.touched_point]
  cases (s.point p).group with
  | none => rfl
  | some g =>
    dsimp only
    rw [State.touched_group, State.touched_faultGroup]
    split_ifs <;> rfl

theorem State.touched_evaluateOverload (s : State) (q : Port) (p : PointId) :
    (s.touched q).evaluateOverload p = (s.evaluateOverload p).touched q := by
  cases h : (s.point p).load.overload.evaluate (s.point p).load.aboveHigh (s.point p).load.atHighExit
      (s.point p).load.alarm with
  | mk c event =>
    cases event with
    | none => rw [State.evaluateOverload_none h, State.evaluateOverload_none (s := s.touched q) h]; rfl
    | cleared => rw [State.evaluateOverload_cleared h, State.evaluateOverload_cleared (s := s.touched q) h]; rfl
    | entered =>
      rw [State.evaluateOverload_entered h, State.evaluateOverload_entered (s := s.touched q) h, State.touched_setLoad,
        State.touched_notifyAll, State.touched_faultPoint, State.touched_point]

theorem State.touched_evaluateUnderload (s : State) (q : Port) (p : PointId) :
    (s.touched q).evaluateUnderload p = (s.evaluateUnderload p).touched q := by
  cases h : (s.point p).load.underload.evaluate (s.point p).load.belowLow (s.point p).load.atLowExit
      (s.point p).load.alarm with
  | mk c event =>
    cases event with
    | none => rw [State.evaluateUnderload_none h, State.evaluateUnderload_none (s := s.touched q) h]; rfl
    | cleared => rw [State.evaluateUnderload_cleared h, State.evaluateUnderload_cleared (s := s.touched q) h]; rfl
    | entered =>
      rw [State.evaluateUnderload_entered h, State.evaluateUnderload_entered (s := s.touched q) h, State.touched_setLoad,
        State.touched_notifyAll, State.touched_underloadFault, State.touched_point]

theorem State.touched_evaluateLoads (s : State) (q : Port) (p : PointId) :
    (s.touched q).evaluateLoads p = (s.evaluateLoads p).touched q := by
  unfold State.evaluateLoads
  rw [State.touched_point, State.touched_evaluateOverload, State.touched_evaluateUnderload]
  split_ifs <;> rfl

theorem State.touched_noteIf (s : State) (q : Port) (b : Bool) (k : NoticeKind) (u : Subject) :
    (s.touched q).noteIf b k u = (s.noteIf b k u).touched q := by
  unfold State.noteIf
  cases b <;> rfl

/-! ## CLEAR_LOAD_ALARM (R61) -/

theorem Condition.cleared_eq (c : Condition) :
    c.cleared = if c.active && c.exitSeen then ⟨false, false⟩ else c := by
  unfold Condition.cleared
  cases c.active <;> cases c.exitSeen <;> rfl

theorem Condition.cleared_active (c : Condition) : c.cleared.active = (c.active && !(c.active && c.exitSeen)) := by
  rw [Condition.cleared_eq]
  cases hactive : c.active <;> cases c.exitSeen <;> simp [hactive]

/-- R61 for both conditions: the notices in their order, then the load part. -/
theorem State.clear_setLoad_eq (s : State) (p : PointId) (l : LoadPart) (notify : Bool) :
    ((s.setLoad p l).clearOverload p notify).clearUnderload p notify =
      ((s.noteIf (l.overload.active && l.overload.exitSeen && notify) .overloadCleared (.point p)).noteIf
        (l.underload.active && l.underload.exitSeen && notify) .underloadCleared (.point p)).setLoad p l.cleared := by
  rw [State.clearOverload_setLoad, State.clearUnderload_setLoad]
  rfl

/-- R61 as one store: the notices in their order, then the load part. -/
def State.loadCleared (s : State) (p : PointId) : State :=
  ((s.noteIf ((s.point p).load.overload.active && (s.point p).load.overload.exitSeen) .overloadCleared (.point p)).noteIf
    ((s.point p).load.underload.active && (s.point p).load.underload.exitSeen) .underloadCleared (.point p)).setLoad p
      (s.point p).load.cleared

theorem State.touched_loadCleared (s : State) (q : Port) (p : PointId) :
    (s.touched q).loadCleared p = (s.loadCleared p).touched q := by
  unfold State.loadCleared
  rw [State.touched_point, State.touched_noteIf, State.touched_noteIf, State.touched_setLoad]

theorem reqClearLoadAlarm_eq {s : State} {b : Byte} {p : PointId} (hb : pointOf b = some p) : reqClearLoadAlarm b s =
    (s.loadCleared p, .ok [boolByte (s.point p).load.overload.cleared.active,
      boolByte (s.point p).load.underload.cleared.active]) := by
  have hclear := s.clear_setLoad_eq p (s.point p).load true
  rw [State.setLoad_self, Bool.and_true, Bool.and_true] at hclear
  simp only [reqClearLoadAlarm, hb, hclear, State.setLoad_load]
  rfl

/-! ## SET_LOAD_LIMITS (R62, R60) -/

theorem State.noteIf_noteIf (s : State) {a b : Bool} (h : a = true → b = false) (k : NoticeKind) (u : Subject) :
    (s.noteIf a k u).noteIf b k u = s.noteIf (a || b) k u := by
  unfold State.noteIf
  cases a
  · rfl
  · rw [h rfl]
    rfl

/-- A load part after a change of mode from LATCH (R62). -/
def LoadPart.unlatched (l : LoadPart) (leaves : Bool) : LoadPart := if leaves then l.cleared else l

theorem State.leaveLatch_setLoad (s : State) (p : PointId) (l : LoadPart) (before mode : AlarmMode) :
    (s.setLoad p l).leaveLatch p before mode =
      ((s.noteIf (decide (before = .latch ∧ mode ≠ .latch) && (l.overload.active && l.overload.exitSeen && mode == .cross))
        .overloadCleared (.point p)).noteIf (decide (before = .latch ∧ mode ≠ .latch) &&
          (l.underload.active && l.underload.exitSeen && mode == .cross)) .underloadCleared (.point p)).setLoad p
            (l.unlatched (decide (before = .latch ∧ mode ≠ .latch))) := by
  rw [State.leaveLatch, State.clear_setLoad_eq]
  by_cases hleaves : before = .latch ∧ mode ≠ .latch
  · rw [if_pos hleaves, decide_eq_true hleaves]
    rfl
  · rw [if_neg hleaves, decide_eq_false hleaves]
    rfl

/-- R60: a load part with a low_kg of 0 holds no ACTIVE underload. -/
def LoadPart.lowOff (l : LoadPart) : LoadPart :=
  if l.low = 0 ∧ l.underload.active then { l with underload := ⟨false, false⟩ } else l

theorem State.lowOff_setLoad (s : State) (p : PointId) (l : LoadPart) : (s.setLoad p l).lowOff p =
    (s.noteIf (decide (l.low = 0) && l.underload.active && l.alarm == .cross) .underloadCleared (.point p)).setLoad p
      l.lowOff := by
  rw [← State.setLoad_noteIf, State.lowOff, State.setLoad_load, LoadPart.lowOff]
  dsimp only
  rw [State.setLoad_setLoad]
  by_cases hoff : l.low = 0 ∧ l.underload.active
  · rw [if_pos hoff, if_pos hoff, decide_eq_true hoff.1, hoff.2]
    cases l.alarm <;> rfl
  · rw [if_neg hoff, if_neg hoff]
    have hnone : (decide (l.low = 0) && l.underload.active) = false := by
      rw [Bool.and_eq_false_iff, decide_eq_false_iff_not]
      by_contra hall
      rw [not_or, not_not, Bool.not_eq_false] at hall
      exact hoff hall
    rw [hnone]
    rfl

theorem LoadPart.lowOff_eq (l : LoadPart) : l.lowOff = { l with
    underload := if l.low = 0 ∧ l.underload.active then ⟨false, false⟩ else l.underload } := by
  unfold LoadPart.lowOff
  split_ifs <;> rfl

/-- R62 and R60 for the load part alone. -/
theorem LoadPart.lowOff_unlatched (l : LoadPart) (leaves : Prop) [Decidable leaves] :
    let uc := if leaves ∧ l.underload.active ∧ l.underload.exitSeen then ⟨false, false⟩ else l.underload
    (l.unlatched (decide leaves)).lowOff = { l with
      overload := if leaves ∧ l.overload.active ∧ l.overload.exitSeen then ⟨false, false⟩ else l.overload
      underload := if l.low = 0 ∧ uc.active then ⟨false, false⟩ else uc } := by
  dsimp only
  rw [LoadPart.lowOff_eq]
  by_cases hleaves : leaves
  · rw [LoadPart.unlatched, if_pos (decide_eq_true hleaves)]
    simp only [hleaves, true_and]
    rfl
  · rw [LoadPart.unlatched, if_neg (by simpa using hleaves)]
    simp only [hleaves, false_and, if_false]

/-- R62 and R60: the two occasions of UNDERLOAD_CLEARED never fall together. -/
theorem LoadPart.underloadEnds (l : LoadPart) (leaves : Prop) [Decidable leaves] (cross : Bool) :
    ((decide leaves && (l.underload.active && l.underload.exitSeen && cross)) = true →
      (decide (l.low = 0) && (l.unlatched (decide leaves)).underload.active && cross) = false) ∧
    (decide leaves && (l.underload.active && l.underload.exitSeen && cross) ||
        decide (l.low = 0) && (l.unlatched (decide leaves)).underload.active && cross) =
      decide (cross ∧ l.underload.active ∧ (l.low = 0 ∨ (leaves ∧ l.underload.exitSeen))) := by
  have hactive : (l.unlatched (decide leaves)).underload.active =
      (l.underload.active && !(decide leaves && l.underload.exitSeen)) := by
    by_cases hleaves : leaves
    · simp only [LoadPart.unlatched, decide_eq_true hleaves, if_true, LoadPart.cleared, Condition.cleared_active,
        Bool.true_and]
      cases l.underload.active <;> rfl
    · simp [LoadPart.unlatched, hleaves]
  rw [hactive]
  cases l.underload.active
  · simp
  · cases l.underload.exitSeen <;> cases cross <;> by_cases leaves <;> simp_all

theorem LoadPart.unlatched_low (l : LoadPart) (leaves : Bool) : (l.unlatched leaves).low = l.low := by
  cases leaves <;> rfl

theorem LoadPart.unlatched_alarm (l : LoadPart) (leaves : Bool) : (l.unlatched leaves).alarm = l.alarm := by
  cases leaves <;> rfl

/-- R62 and R60 as one store: the notices in their order, then the load part. -/
def State.relimited (s : State) (p : PointId) (l : LoadPart) (before : AlarmMode) : State :=
  ((s.noteIf (decide (l.alarm = .cross ∧ (before = .latch ∧ l.alarm ≠ .latch) ∧ l.overload.active ∧ l.overload.exitSeen))
    .overloadCleared (.point p)).noteIf (decide (l.alarm = .cross ∧ l.underload.active ∧
      (l.low = 0 ∨ ((before = .latch ∧ l.alarm ≠ .latch) ∧ l.underload.exitSeen)))) .underloadCleared (.point p)).setLoad p
        (l.unlatched (decide (before = .latch ∧ l.alarm ≠ .latch))).lowOff

theorem State.relimit_setLoad (s : State) (p : PointId) (l : LoadPart) (before : AlarmMode) :
    ((s.setLoad p l).leaveLatch p before l.alarm).lowOff p = s.relimited p l before := by
  obtain ⟨hapart, hends⟩ := l.underloadEnds (before = .latch ∧ l.alarm ≠ .latch) (l.alarm == .cross)
  have hover : (decide (before = .latch ∧ l.alarm ≠ .latch) && (l.overload.active && l.overload.exitSeen &&
      l.alarm == .cross)) = decide (l.alarm = .cross ∧ (before = .latch ∧ l.alarm ≠ .latch) ∧ l.overload.active ∧
        l.overload.exitSeen) := by
    rw [Bool.eq_iff_iff]
    simp only [Bool.and_eq_true, decide_eq_true_iff, beq_iff_eq]
    tauto
  rw [State.leaveLatch_setLoad, State.lowOff_setLoad, LoadPart.unlatched_low, LoadPart.unlatched_alarm,
    State.noteIf_noteIf _ hapart, hends, hover]
  simp only [beq_iff_eq]
  rfl

theorem State.touched_relimited (s : State) (q : Port) (p : PointId) (l : LoadPart) (before : AlarmMode) :
    (s.touched q).relimited p l before = (s.relimited p l before).touched q := by
  unfold State.relimited
  rw [State.touched_noteIf, State.touched_noteIf, State.touched_setLoad]

theorem State.relimited_load (s : State) (p : PointId) (l : LoadPart) (before : AlarmMode) :
    ((s.relimited p l before).point p).load = (l.unlatched (decide (before = .latch ∧ l.alarm ≠ .latch))).lowOff :=
  State.setLoad_load ..

theorem alarmModeOf_code {b : Byte} {m : AlarmMode} (h : alarmModeOf b = some m) : m.code = b := by
  unfold alarmModeOf at h
  split at h <;> cases h <;> exact (Byte.eq_of_toNat ‹_›).symm

theorem alarmModeOf_eq_none {b : Byte} (h : 3 ≤ b.toNat) : alarmModeOf b = none := by
  unfold alarmModeOf
  split
  case h_4 => rfl
  all_goals omega

theorem reqSetLoadLimits_eq {s : State} {b mode : Byte} {p : PointId} {m : AlarmMode} (hb : pointOf b = some p)
    (hm : alarmModeOf mode = some m) (high low hyst : Word16) {l : LoadPart}
    (hl : l = (s.point p).load.limited high.toNat low.toNat hyst.toNat m) : reqSetLoadLimits b high low hyst mode s =
      ((s.relimited p l (s.point p).load.alarm).evaluateLoads p,
        .ok (nat2 l.high ++ nat2 l.low ++ nat2 l.hyst ++ [mode])) := by
  have hrelimit := s.relimit_setLoad p l (s.point p).load.alarm
  subst hl
  simp only [reqSetLoadLimits, hb, hm, alarmModeOf_code hm]
  rw [← hrelimit]
  rfl

theorem LoadPart.unlatched_value (l : LoadPart) (leaves : Bool) : (l.unlatched leaves).lowOff.value = l.value := by
  rw [LoadPart.lowOff_eq]
  cases leaves <;> rfl

/-! ## SET_DUTY_LIMIT (R66) -/

theorem State.touched_dutyNote (s : State) (q : Port) (p : PointId) (before after : Bool) :
    (s.touched q).dutyNote p before after = (s.dutyNote p before after).touched q := by
  unfold State.dutyNote
  split_ifs <;> rfl

theorem reqSetDutyLimit_eq {s : State} {b : Byte} {p : PointId} (hb : pointOf b = some p) (limit : Word16)
    {l : LoadPart} (hl : l = { (s.point p).load with dutyLimit := max 300 (min limit.toNat 60000) }) :
    reqSetDutyLimit b limit s = ((s.setLoad p { l with dutyHot := l.hotAfter }).dutyNote p l.dutyHot l.hotAfter,
      .ok (nat2 l.dutyLimit ++ nat2 l.duty ++ [boolByte l.hotAfter])) := by
  subst hl
  simp only [reqSetDutyLimit, hb]
  rw [State.evaluateDuty_setLoad, State.dutyNote_setLoad, State.setLoad_load]

/-- Settles O33: the endings come with their notices, the load part is stored once, and the evaluation follows. -/
theorem loadSettingsAreReevaluated : Obligations.LoadSettingsAreReevaluated := by
  unfold Obligations.LoadSettingsAreReevaluated
  refine ⟨fun s q tag b htakes => ⟨fun hb => ?_, fun p hb => ?clear⟩,
    fun s q tag b high low hyst mode htakes => ⟨fun hbad => ?_, fun p m hb hm => ?limits⟩,
    fun s q tag b limit htakes => ⟨fun hb => ?_, fun p hb => ?duty⟩⟩
  · exact congrArg Host.Outcome.next (State.request_denies htakes 0x23 tag _ .badArgument (by rw [reqClearLoadAlarm, hb]))
  case clear =>
    refine (congrArg Host.Outcome.next (State.request_effect htakes 0x23 tag _ _ _ ((reqClearLoadAlarm_eq hb).trans
      (congrArg (·, _) (State.touched_loadCleared s q p))))).trans ?_
    rw [State.loadCleared, Condition.cleared_active, Condition.cleared_active, ← State.setLoad_noteIf,
      ← State.setLoad_noteIf, LoadPart.cleared, Condition.cleared_eq, Condition.cleared_eq]
    rfl
  · exact congrArg Host.Outcome.next (State.request_denies htakes 0x24 tag _ .badArgument (by
      unfold reqSetLoadLimits
      rcases hbad with hb | hmode
      · rw [hb]
      · rw [alarmModeOf_eq_none hmode]
        cases pointOf b <;> rfl))
  case limits =>
    have hbody := reqSetLoadLimits_eq (s := s.touched q) hb hm high low hyst rfl
    rw [State.touched_relimited, State.touched_evaluateLoads] at hbody
    refine (congrArg Host.Outcome.next (State.request_effect htakes 0x24 tag _ _ _ hbody)).trans ?_
    rw [State.evaluateLoads_ite ((congrArg LoadPart.value (State.relimited_load ..)).trans (LoadPart.unlatched_value ..)),
      State.relimited, LoadPart.lowOff_unlatched, ← State.setLoad_noteIf, ← State.setLoad_noteIf]
    simp only [State.noteIf, decide_eq_true_iff]
    rfl
  · exact congrArg Host.Outcome.next (State.request_denies htakes 0x25 tag _ .badArgument (by rw [reqSetDutyLimit, hb]))
  case duty =>
    have hbody := reqSetDutyLimit_eq (s := s.touched q) hb limit rfl
    rw [State.touched_setLoad, State.touched_dutyNote] at hbody
    exact (congrArg Host.Outcome.next (State.request_effect htakes 0x25 tag _ _ _ hbody)).trans rfl

end Sys2Proof.Machine
end

section
/-!
Upstream fields (O23).
-/
namespace Sys2Proof.Machine

open Sys2Proof

/-! ## The load sequence (R29, R30) -/

/-- R29: the slot's sequence is recorded. -/
def State.sequenced (s : State) (n : SlotId) (q : BitVec 4) : State := s.setSlot n { s.slot n with lastSeq := some q }

theorem State.sequenced_same {s : State} {n : SlotId} {q : BitVec 4} (h : (s.slot n).lastSeq = some q) :
    s.sequenced n q = s := by
  rw [State.sequenced, ← h]
  exact s.setSlot_self n

theorem State.takeSample_other {s : State} {n : SlotId} (h : (s.slot n).state ≠ .bound) (q : BitVec 4) (r : Code) :
    s.takeSample n q r = s.sequenced n q := by
  unfold State.takeSample
  split
  next => rfl
  next q0 hq =>
    split_ifs with hsame
    · exact (State.sequenced_same (hsame ▸ hq)).symm
    · split
      next hbound _ => exact absurd hbound h
      next => rfl

theorem State.takeSample_bound {s : State} {n : SlotId} {p : PointId} (hstate : (s.slot n).state = .bound)
    (hpoint : (s.slot n).point = some p) (q : BitVec 4) (r : Code) : s.takeSample n q r =
      if (s.slot n).lastSeq = none ∨ (s.slot n).lastSeq = some q then s.sequenced n q
      else (s.sequenced n q).loadArrival n p r := by
  unfold State.takeSample
  split
  next hnone => exact (if_pos (.inl hnone)).symm
  next q0 hq =>
    rw [hq, hstate, hpoint]
    by_cases hsame : q0 = q
    · rw [if_pos hsame, if_pos (.inr (congrArg some hsame)), State.sequenced_same (hsame ▸ hq)]
    · rw [if_neg hsame, if_neg (by simpa using hsame)]
      rfl

/-- R24 for a slot that is not BOUND once its counters are taken: only the sequence is left. -/
theorem State.validField_other {s : State} {n : SlotId} (h : ((s.countValid n).slot n).state ≠ .bound) (u : UpField) :
    s.validField n u = ((s.countValid n).sequenced n (upSeq u)).serviceTaken n u.b5 (upMark u) := by
  have hposition : (s.countValid n).takePosition n (upPosition u) = s.countValid n := by
    unfold State.takePosition
    split
    next hbound _ => exact absurd hbound h
    next => rfl
  have hindication : (s.countValid n).takeIndication n (upIndication u) = s.countValid n := by
    unfold State.takeIndication
    split
    next hbound _ => exact absurd hbound h
    next => rfl
  rw [State.validField, hposition, hindication, State.takeSample_other h]

/-! ## The counters (R7, R8) -/

section Counters

variable {s : State} {n : SlotId}

theorem State.countValid_waits (hstate : (s.slot n).state = .empty) (h : (s.slot n).presence + 1 < 4) :
    s.countValid n = s.setSlot n { s.slot n with presence := (s.slot n).presence + 1 } :=
  (if_pos hstate).trans (if_neg (Nat.not_le.mpr h))

theorem State.countValid_joins (hstate : (s.slot n).state = .empty) (h : 4 ≤ (s.slot n).presence + 1) :
    s.countValid n = s.slotJoins n :=
  (if_pos hstate).trans (if_pos h)

theorem State.countValid_present (hstate : (s.slot n).state ≠ .empty) :
    s.countValid n = s.setSlot n { s.slot n with miss := 0 } :=
  if_neg hstate

end Counters

/-! ## A slot that joins (R7) -/

theorem State.joinJob_sequenced (s : State) (n : SlotId) (q : BitVec 4) (e : JoinEntry) :
    (s.sequenced n q).joinJob e = s.joinJob e := by
  unfold State.joinJob State.sequenced
  cases e.kind
  · rfl
  · rw [State.setSlot_slot]
    split_ifs with h
    · rw [h]
    · rfl

/-- A sequence recorded after a join job starts may be recorded before. -/
theorem State.startJob_sequenced {s : State} (h : s.service.joinList ≠ []) (n : SlotId) (q : BitVec 4) :
    s.startJob.sequenced n q = (s.sequenced n q).startJob := by
  cases hactive : s.service.active with
  | some j => rw [State.startJob_busy hactive, State.startJob_busy (s := s.sequenced n q) hactive]
  | none =>
    obtain ⟨e, rest, hjoin⟩ := List.exists_cons_of_ne_nil h
    rw [State.startJob_of_join hactive hjoin, State.startJob_of_join (s := s.sequenced n q) hactive hjoin,
      State.joinJob_sequenced]
    rfl

/-- R7: the slot's side and the list's side of a join, before the Service Engine looks at its lists. -/
def State.joining (s : State) (n : SlotId) (q : Option (BitVec 4)) : State :=
  (s.setSlot n { s.slot n with state := .joining, presence := 4, miss := 0, lastSeq := q }).setJoinList
    (s.service.joinList ++ [⟨n, .full⟩])

theorem State.slotJoins_eq (s : State) (n : SlotId) : s.slotJoins n = (s.joining n (s.slot n).lastSeq).startJob := rfl

theorem State.joining_list (s : State) (n : SlotId) (q : Option (BitVec 4)) :
    (s.joining n q).service.joinList ≠ [] := by
  simp [State.joining, State.setJoinList]

theorem State.joining_sequenced (s : State) (n : SlotId) (q : Option (BitVec 4)) (q' : BitVec 4) :
    (s.joining n q).sequenced n q' = s.joining n (some q') := by
  have hslot : (s.joining n q).slot n = { s.slot n with state := .joining, presence := 4, miss := 0, lastSeq := q } :=
    (State.setSlot_slot ..).trans (if_pos rfl)
  rw [State.sequenced, hslot]
  exact congrArg (State.setJoinList · _) (State.setSlot_setSlot ..)

theorem State.slotJoins_sequenced (s : State) (n : SlotId) (q : BitVec 4) :
    (s.slotJoins n).sequenced n q = (s.joining n (some q)).startJob := by
  rw [State.slotJoins_eq, State.startJob_sequenced (s.joining_list n _), State.joining_sequenced]

theorem State.slotJoins_state (s : State) (n : SlotId) : ((s.slotJoins n).slot n).state = .joining := by
  rw [State.slotJoins_eq, State.slot, (State.startJob_serves _).slots]
  exact congrArg SlotRec.state ((State.setSlot_slot ..).trans (if_pos rfl))

theorem State.joining_quiet {s : State} (hquiet : s.Quiet) (n : SlotId) (q : Option (BitVec 4)) :
    (s.joining n q).startJob.Quiet := by
  cases hactive : (s.joining n q).service.active with
  | some j =>
    rw [State.startJob_busy hactive]
    exact hquiet
  | none =>
    obtain ⟨e, rest, hjoin⟩ := List.exists_cons_of_ne_nil (s.joining_list n q)
    rw [State.startJob_of_join hactive hjoin]
    exact hquiet

/-! ## The commands -/

theorem exec_upstreamField {s : State} (hrun : s.inReset = false) (n : SlotId) (f : Option UpField) :
    exec (.upstreamField n f) s = .next (s.upstream n f).flushPrompts :=
  congrArg Host.Outcome.next (State.event_running hrun _)

theorem exec_slotJoining {s : State} (hrun : s.inReset = false) {n : SlotId} (hstate : (s.slot n).state = .empty)
    (h : 4 ≤ (s.slot n).presence + 1) : exec (.slotJoining n) s = .next (s.slotJoins n).flushPrompts :=
  congrArg Host.Outcome.next ((State.event_running hrun _).trans (congrArg State.flushPrompts (if_pos ⟨hstate, h⟩)))

theorem exec_slotLost {s : State} (hrun : s.inReset = false) {n : SlotId} (hstate : (s.slot n).state ≠ .empty)
    (h : 8 ≤ (s.slot n).miss + 1) : exec (.slotLost n) s = .next (s.slotIsLost n).flushPrompts :=
  congrArg Host.Outcome.next ((State.event_running hrun _).trans (congrArg State.flushPrompts (if_pos ⟨hstate, h⟩)))

theorem State.upstream_valid {u : UpField} (h : upValid u = true) (s : State) (n : SlotId) :
    s.upstream n (some u) = s.validField n u :=
  if_pos h

theorem State.upstream_invalid {f : Option UpField} (h : f = none ∨ ∃ u, f = some u ∧ upValid u = false) (s : State)
    (n : SlotId) : s.upstream n f = s.invalidField n := by
  obtain rfl | ⟨u, rfl, hu⟩ := h
  · rfl
  · exact if_neg (ne_true_of_eq_false hu)

theorem State.takePosition_bound {s : State} {n : SlotId} {p : PointId} (hstate : (s.slot n).state = .bound)
    (hpoint : (s.slot n).point = some p) (x : Word16) :
    s.takePosition n x = (s.setPoint p { s.point p with raw := some x }).positionReport p := by
  unfold State.takePosition
  rw [hstate, hpoint]

theorem State.positionReport_alone {s : State} {p : PointId} (h : (s.point p).group = none) : s.positionReport p = s := by
  unfold State.positionReport
  rw [h]

/-- An indication that is accepted already changes only the candidate (R27). -/
theorem State.takeIndication_same {s : State} {n : SlotId} {p : PointId} (hstate : (s.slot n).state = .bound)
    (hpoint : (s.slot n).point = some p) {i : Option Indication} (h : (s.slot n).accepted = i) :
    s.takeIndication n i = s.setSlot n { s.slot n with candidate := i } := by
  unfold State.takeIndication
  rw [hstate, hpoint]
  cases i with
  | none => rfl
  | some v => exact if_neg fun hboth => hboth.2 h

/-- R24 for a BOUND slot whose point is in no group and whose indication is accepted already. -/
theorem State.validField_alone {s : State} {n : SlotId} {p : PointId} {u : UpField} (hstate : (s.slot n).state = .bound)
    (hpoint : (s.slot n).point = some p) (hgroup : (s.point p).group = none)
    (haccepted : (s.slot n).accepted = upIndication u) :
    let t := (s.setPoint p { s.point p with raw := some (upPosition u) }).setSlot n { s.slot n with
      miss := 0, candidate := upIndication u, lastSeq := some (upSeq u) }
    s.validField n u = (if (s.slot n).lastSeq = none ∨ (s.slot n).lastSeq = some (upSeq u) then t
      else t.loadArrival n p (upCode u)).serviceTaken n u.b5 (upMark u) := by
  have hcount := State.countValid_present (s := s) (n := n) (hstate.trans_ne nofun)
  have hslot : (s.countValid n).slot n = { s.slot n with miss := 0 } := by
    rw [hcount, State.setSlot_slot, if_pos rfl]
  have hposition : (s.countValid n).takePosition n (upPosition u) =
      (s.setPoint p { s.point p with raw := some (upPosition u) }).setSlot n { s.slot n with miss := 0 } := by
    rw [State.takePosition_bound (by rw [hslot]; exact hstate) (by rw [hslot]; exact hpoint),
      State.positionReport_alone (by rw [hcount, State.setPoint_point, if_pos rfl]; exact hgroup), hcount]
    rfl
  have hindication : ((s.countValid n).takePosition n (upPosition u)).takeIndication n (upIndication u) =
      (s.setPoint p { s.point p with raw := some (upPosition u) }).setSlot n { s.slot n with
        miss := 0, candidate := upIndication u } := by
    rw [hposition, State.takeIndication_same (p := p) (by rw [State.setSlot_slot, if_pos rfl]; exact hstate)
      (by rw [State.setSlot_slot, if_pos rfl]; exact hpoint) (by rw [State.setSlot_slot, if_pos rfl]; exact haccepted),
      State.setSlot_setSlot, State.setSlot_slot, if_pos rfl]
  rw [State.validField, hindication, State.takeSample_bound (p := p) (by rw [State.setSlot_slot, if_pos rfl]; exact hstate)
    (by rw [State.setSlot_slot, if_pos rfl]; exact hpoint), State.sequenced, State.setSlot_setSlot, State.setSlot_slot,
    if_pos rfl]

theorem State.serviceBroken_eq (s : State) (n : SlotId) : s.serviceBroken n = match s.service.active with
    | some j => if j.slot = n then s.setService { s.service with active := some { j with prev := none } } else s
    | none => s := rfl

theorem State.serviceBroken_quiet {s : State} (h : s.Quiet) (n : SlotId) : (s.serviceBroken n).Quiet := by
  rw [State.serviceBroken_eq]
  split
  · split_ifs
    · exact h
    · exact h
  · exact h

theorem State.serviceBroken_inReset (s : State) (n : SlotId) : (s.serviceBroken n).inReset = s.inReset := by
  rw [State.serviceBroken_eq]
  split
  · split_ifs <;> rfl
  · rfl

/-- Settles O23: the counters by the slot's state, and the five steps for a BOUND slot at rest. -/
theorem fieldsCountAndDeliverSamples : Obligations.FieldsCountAndDeliverSamples := by
  unfold Obligations.FieldsCountAndDeliverSamples
  refine ⟨fun s n hrun hquiet => ⟨fun u hvalid hstate hlow => ?waits, fun u hvalid hstate hhigh => ?joins,
    fun u hvalid hstate => ?clears, fun hstate hhigh => ?event, fun f hf => ⟨fun hstate => ?_, fun hstate hlow => ?_,
    fun hstate hhigh => ?_⟩⟩, fun s n p u hrun hquiet hstate hpoint hvalid hgroup hsome haccepted => ?bound⟩
  case waits =>
    have hcount := State.countValid_waits hstate hlow
    rw [exec_upstreamField hrun, State.upstream_valid hvalid, State.validField_other (by
      rw [hcount, State.setSlot_slot, if_pos rfl]
      exact hstate.trans_ne nofun), hcount, State.sequenced, State.setSlot_setSlot, State.setSlot_slot, if_pos rfl]
  case joins =>
    have hcount := State.countValid_joins hstate hhigh
    rw [exec_upstreamField hrun, State.upstream_valid hvalid, State.validField_other (by
      rw [hcount, State.slotJoins_state]
      nofun), hcount, State.slotJoins_sequenced]
    rfl
  case clears =>
    have hcount := State.countValid_present (s := s) (n := n) (by rcases hstate with h | h <;> rw [h] <;> nofun)
    rw [exec_upstreamField hrun, State.upstream_valid hvalid, State.validField_other (by
      rw [hcount, State.setSlot_slot, if_pos rfl]
      rcases hstate with h | h <;> exact h.trans_ne nofun), hcount, State.sequenced, State.setSlot_setSlot,
      State.setSlot_slot, if_pos rfl]
  case event =>
    rw [exec_slotJoining hrun hstate hhigh, State.slotJoins_eq, State.flushPrompts_quiet (State.joining_quiet hquiet n _)]
    rfl
  · rw [exec_upstreamField hrun, State.upstream_invalid hf, State.invalidField, if_pos hstate]
    exact congrArg Host.Outcome.next (State.flushPrompts_quiet (State.serviceBroken_quiet hquiet n))
  · rw [exec_upstreamField hrun, State.upstream_invalid hf, State.invalidField, if_neg hstate]
    refine (congrArg (fun t : State => Host.Outcome.next t.flushPrompts) (if_neg (Nat.not_le.mpr hlow))).trans ?_
    exact congrArg Host.Outcome.next (State.flushPrompts_quiet (State.serviceBroken_quiet hquiet n))
  · rw [exec_upstreamField hrun, State.upstream_invalid hf, State.invalidField, if_neg hstate]
    refine (congrArg (fun t : State => Host.Outcome.next t.flushPrompts) (if_pos hhigh)).trans ?_
    exact (exec_slotLost ((s.serviceBroken_inReset n).trans hrun) (by rwa [State.serviceBroken_slot])
      (by rwa [State.serviceBroken_slot])).symm
  case bound =>
    rw [exec_upstreamField hrun, State.upstream_valid hvalid, State.validField_alone hstate hpoint hgroup haccepted]
    exact congrArg Host.Outcome.next (apply_ite (fun x : State => (x.serviceTaken n u.b5 (upMark u)).flushPrompts) ..)
      |>.trans (apply_ite Host.Outcome.next ..)

end Sys2Proof.Machine
end

section
/-!
The loss of a slot (O24).
-/
namespace Sys2Proof.Machine

open Sys2Proof

/-! ## The lost job (R44, R39) -/

/-- R39: what the failure of a lost job tells its recipients; an IDENT has none (R11). -/
def State.tellLost (s : State) (j : Job) : State :=
  match j.origin, j.point with
  | .port q, some p => s.notify q .serviceFailed (.point p)
  | .port _, none => s
  | _, some p => if j.kind = .ident then s else s.notifyAll .serviceFailed (.point p)
  | _, none => s

theorem State.tellLost_notices (s : State) (j : Job) : s.tellLost j = { s with notices := (s.tellLost j).notices } := by
  unfold State.tellLost
  split
  · rfl
  · rfl
  · split_ifs <;> rfl
  · rfl

theorem ServiceKind.outcome_lost (k : ServiceKind) : k.outcome .lost = .lost := by
  cases k <;> rfl

theorem State.jobDone_lost {s : State} {j : Job} (hslot : (s.slot j.slot).state ≠ .joining) :
    s.jobDone j .lost = s.tellLost j := by
  unfold State.jobDone State.tellLost
  cases j.origin with
  | port q => cases hpoint : j.point <;> simp only [State.portJobDone, hpoint]
  | _ =>
    cases hkind : j.kind with
    | ident =>
      cases j.point with
      | none => exact if_neg hslot
      | some p => exact if_neg hslot
    | _ => cases hpoint : j.point <;> simp [State.calReadDone, hpoint]

theorem State.loseJob_own {s : State} {n : SlotId} {j : Job} (hactive : s.service.active = some j) (hslot : j.slot = n)
    (hstate : (s.slot n).state ≠ .joining) : s.loseJob n = ((s.setActive none).oweIdle n).tellLost j := by
  subst hslot
  have hlose : s.loseJob j.slot = s.finishJob .lost := by
    rw [State.loseJob, hactive]
    exact if_pos rfl
  rw [hlose, State.finishJob_eq hactive, ServiceKind.outcome_lost]
  exact State.jobDone_lost (s := (s.setActive none).oweIdle j.slot) (by
    rw [State.oweIdle_slot, if_pos rfl]
    exact hstate)

theorem State.loseJob_other {s : State} {n : SlotId} (h : ∀ j, s.service.active = some j → j.slot ≠ n) :
    s.loseJob n = s := by
  unfold State.loseJob
  cases hactive : s.service.active with
  | none => rfl
  | some j => exact if_neg (h j hactive)

/-- What the loss of a slot's job leaves unchanged. -/
theorem State.loseJob_binds (s : State) (n : SlotId) : s.BindsTo (s.loseJob n) := by
  unfold State.loseJob
  split
  · split_ifs
    · exact s.finishJob_binds .lost
    · rfl
  · rfl

theorem State.loseJob_points {s : State} {n : SlotId} (hstate : (s.slot n).state ≠ .joining) :
    (s.loseJob n).points = s.points := by
  by_cases h : ∃ j, s.service.active = some j ∧ j.slot = n
  · obtain ⟨j, hactive, hslot⟩ := h
    rw [State.loseJob_own hactive hslot hstate, State.tellLost_notices]
    rfl
  · rw [State.loseJob_other fun j hj hslot => h ⟨j, hj, hslot⟩]

theorem State.loseJob_slot {s : State} {n : SlotId} (hstate : (s.slot n).state ≠ .joining) (k : SlotId) :
    (s.loseJob n).slot k = if k = n then { s.slot n with idleOwed := ((s.loseJob n).slot n).idleOwed } else s.slot k := by
  by_cases h : ∃ j, s.service.active = some j ∧ j.slot = n
  · obtain ⟨j, hactive, hslot⟩ := h
    rw [State.loseJob_own hactive hslot hstate, State.tellLost_notices]
    change ((s.setActive none).oweIdle n).slot k =
      if k = n then { s.slot n with idleOwed := (((s.setActive none).oweIdle n).slot n).idleOwed } else s.slot k
    rw [State.oweIdle_slot, State.oweIdle_slot, if_pos rfl]
    rfl
  · rw [State.loseJob_other fun j hj hslot => h ⟨j, hj, hslot⟩]
    split_ifs with hk
    · rw [hk]
    · rfl

theorem State.loseJob_joinList {s : State} {n : SlotId} (hstate : (s.slot n).state ≠ .joining) :
    (s.loseJob n).service.joinList = s.service.joinList := by
  by_cases h : ∃ j, s.service.active = some j ∧ j.slot = n
  · obtain ⟨j, hactive, hslot⟩ := h
    rw [State.loseJob_own hactive hslot hstate, State.tellLost_notices]
    rfl
  · rw [State.loseJob_other fun j hj hslot => h ⟨j, hj, hslot⟩]

theorem State.loseJob_active {s : State} {n : SlotId} (hstate : (s.slot n).state ≠ .joining) (j : Job)
    (hj : (s.loseJob n).service.active = some j) : j.slot ≠ n := by
  by_cases h : ∃ k, s.service.active = some k ∧ k.slot = n
  · obtain ⟨k, hactive, hslot⟩ := h
    rw [State.loseJob_own hactive hslot hstate, State.tellLost_notices] at hj
    cases hj
  · rw [State.loseJob_other fun k hk hslot => h ⟨k, hk, hslot⟩] at hj
    exact fun hslot => h ⟨j, hj, hslot⟩

/-! ## The next job (R41) -/

theorem State.startPortJob_joinList (l : List PortEntry) (s : State) :
    (s.startPortJob l).service.joinList = s.service.joinList := by
  induction l generalizing s with
  | nil => rfl
  | cons e rest ih =>
    unfold State.startPortJob
    split_ifs
    · rfl
    · exact ih _

theorem State.startPortJob_active (l : List PortEntry) {s : State} (hidle : s.service.active = none) (j : Job)
    (hj : (s.startPortJob l).service.active = some j) : ∃ p, (s.point p).boundSlot = some j.slot := by
  induction l generalizing s with
  | nil => exact nomatch hidle.symm.trans hj
  | cons e rest ih =>
    unfold State.startPortJob at hj
    split_ifs at hj with hbound
    · cases hj
      exact ⟨e.point, hbound⟩
    · exact ih (s := s.notify e.port .serviceFailed (.point e.point)) hidle hj

theorem State.startJob_joinList {s : State} {e : JoinEntry} (h : e ∈ s.startJob.service.joinList) :
    e ∈ s.service.joinList := by
  unfold State.startJob at h
  split at h
  next => exact h
  next hjoin => exact hjoin ▸ List.mem_cons_of_mem _ h
  next => rwa [State.startPortJob_joinList] at h

/-- No job starts for a slot that has no join entry and carries no point. -/
theorem State.startJob_active {s : State} {n : SlotId} (hactive : ∀ j, s.service.active = some j → j.slot ≠ n)
    (hjoin : ∀ e ∈ s.service.joinList, e.slot ≠ n) (hpoints : ∀ p, (s.point p).boundSlot ≠ some n) (j : Job)
    (hj : s.startJob.service.active = some j) : j.slot ≠ n := by
  unfold State.startJob at hj
  split at hj
  next => exact hactive j hj
  next e rest _ hlist =>
    cases hj
    have hslot : (s.joinJob e).slot = e.slot := by
      unfold State.joinJob
      cases e.kind <;> rfl
    rw [hslot]
    exact hjoin e (hlist ▸ List.mem_cons_self)
  next hidle _ =>
    obtain ⟨p, hp⟩ := State.startPortJob_active _ hidle j hj
    exact fun hslot => hpoints p (hslot ▸ hp)

/-! ## The lost slot (R9) -/

/-- R9: the slot enters EMPTY and its join entry goes. -/
def State.slotGone (s : State) (n : SlotId) : State := (s.setSlot n (s.slot n).emptied).dropJoin n

/-- R9, R6: the point that the slot carried is unbound, with the fault of its group. -/
def State.slotFreed (s : State) (n : SlotId) : State :=
  match (s.slot n).point with
  | some p => (s.slotGone n).unbindPoint p
  | none => s.slotGone n

/-- R9: the notice of a lost slot. -/
def State.tellSlotLost (s : State) (r : SlotRec) (n : SlotId) : State :=
  match r.state, r.point with
  | .bound, some p => s.notifyAll .nodeLost (.point p)
  | .foreign, _ => s.notifyAll .nodeLost (.slot n)
  | _, _ => s

theorem State.slotIsLost_eq {s : State} {n : SlotId} (hbinding : s.BindingSound) (hstate : (s.slot n).state ≠ .empty) :
    s.slotIsLost n = (((s.slotFreed n).loseJob n).tellSlotLost (s.slot n) n).startJob := by
  have hnone : (s.slot n).state ≠ .bound → (s.slot n).point = none := fun h => by
    by_contra hsome
    exact h ((hbinding.slotPoint n).mpr hsome)
  cases hs : (s.slot n).state with
  | empty => exact absurd hs hstate
  | joining =>
    simp only [State.slotIsLost, State.slotFreed, State.tellSlotLost, hs, hnone (hs.trans_ne nofun)]
    rfl
  | foreign =>
    simp only [State.slotIsLost, State.slotFreed, State.tellSlotLost, hs, hnone (hs.trans_ne nofun)]
    rfl
  | bound =>
    cases hpoint : (s.slot n).point <;> simp only [State.slotIsLost, State.slotFreed, State.tellSlotLost, hs, hpoint] <;>
      rfl

theorem State.slotGone_slot (s : State) (n k : SlotId) :
    (s.slotGone n).slot k = if k = n then (s.slot n).emptied else s.slot k :=
  State.setSlot_slot ..

theorem State.slotGone_joinList {s : State} {n : SlotId} {e : JoinEntry} (h : e ∈ (s.slotGone n).service.joinList) :
    e.slot ≠ n := by
  have hkept := (List.mem_filter.mp h).2
  simpa using hkept

theorem State.tellSlotLost_notices (s : State) (r : SlotRec) (n : SlotId) :
    s.tellSlotLost r n = { s with notices := (s.tellSlotLost r n).notices } := by
  unfold State.tellSlotLost
  split <;> rfl

/-- R6: the point of a lost slot and its group. -/
theorem State.unbindPoint_moves (s : State) (p : PointId) : (s.setPoint p (s.point p).unbound).MovesTo (s.unbindPoint p) :=
  State.faultPoint_moves ..

theorem State.slotFreed_slots (s : State) (n : SlotId) : (s.slotFreed n).slots = (s.slotGone n).slots := by
  unfold State.slotFreed
  split
  next p _ => exact ((s.slotGone n).unbindPoint_moves p).runs.slots
  next => rfl

theorem State.slotFreed_service (s : State) (n : SlotId) : (s.slotFreed n).service = (s.slotGone n).service := by
  unfold State.slotFreed
  split
  next p _ => exact ((s.slotGone n).unbindPoint_moves p).runs.service
  next => rfl

theorem State.slotFreed_point (s : State) (n : SlotId) (x : PointId) :
    (s.slotFreed n).point x = if (s.slot n).point = some x then (s.point x).unbound else s.point x := by
  unfold State.slotFreed
  split
  next p hpoint =>
    rw [State.point, ((s.slotGone n).unbindPoint_moves p).points]
    refine ((s.slotGone n).setPoint_point p _ x).trans ?_
    rw [hpoint]
    by_cases hx : x = p
    · rw [if_pos hx, if_pos (congrArg some hx.symm), hx]
      rfl
    · rw [if_neg hx, if_neg fun h => hx (Option.some.inj h).symm]
      rfl
  next hnone =>
    rw [hnone]
    rfl

theorem State.slotFreed_eq (s : State) (n : SlotId) : s.slotFreed n = match (s.slot n).point with
    | some p =>
      match (s.point p).group with
      | some g => ((s.slotGone n).setPoint p (s.point p).unbound).faultGroup g .nodeLost (some p)
      | none => (s.slotGone n).setPoint p (s.point p).unbound
    | none => s.slotGone n := by
  unfold State.slotFreed
  cases (s.slot n).point with
  | none => rfl
  | some p =>
    have hgroup : (((s.slotGone n).setPoint p (s.point p).unbound).point p).group = (s.point p).group := by
      rw [State.setPoint_point, if_pos rfl]
      rfl
    change ((s.slotGone n).setPoint p (s.point p).unbound).faultPoint p .nodeLost = _
    rw [State.faultPoint, hgroup] <;> rfl

theorem State.slotFreed_group {s : State} {n : SlotId} {p : PointId} (hpoint : (s.slot n).point = some p) {g : GroupId}
    (hg : (s.point p).group = some g) : (s.slotFreed n).group g =
      if (s.group g).state.active then (s.group g).faulted .nodeLost (some p) else s.group g := by
  rw [State.slotFreed_eq, hpoint]
  simp only [hg]
  refine (State.faultGroup_group ..).trans ?_
  exact ite_congr (by rw [eq_self_iff_true, true_and]; rfl) (fun _ => rfl) fun _ => rfl

theorem State.slotFreed_rest {s : State} {n : SlotId} (h : ∀ p, (s.slot n).point = some p → s.pointActive p = false) :
    (s.slotFreed n).notices = s.notices := by
  unfold State.slotFreed
  split
  next p hpoint =>
    have hrest : ((s.slotGone n).setPoint p (s.point p).unbound).pointActive p = false := by
      rw [← h p hpoint]
      simp only [State.pointActive, State.setPoint_point, if_true]
      rfl
    exact (congrArg State.notices (State.faultPoint_of_rest hrest .nodeLost)).trans rfl
  next => rfl

/-- R44: the job of a slot that is EMPTY already. -/
theorem State.slotFreed_loseJob (s : State) (n : SlotId) : (s.slotFreed n).loseJob n = match s.service.active with
    | some j =>
      if j.slot = n then
        (((s.slotFreed n).setActive none).setSlot n { SlotRec.reset with idleOwed := 2 }).tellLost j
      else s.slotFreed n
    | none => s.slotFreed n := by
  have hactive : (s.slotFreed n).service.active = s.service.active :=
    (congrArg Service.active (s.slotFreed_service n)).trans rfl
  have hslot : (s.slotFreed n).slot n = (s.slot n).emptied := by
    rw [State.slot, s.slotFreed_slots n]
    exact (s.slotGone_slot n n).trans (if_pos rfl)
  cases h : s.service.active with
  | none => exact State.loseJob_other fun j hj => nomatch (hactive.trans h).symm.trans hj
  | some j =>
    dsimp only
    split_ifs with hn
    · rw [State.loseJob_own (hactive.trans h) hn (by rw [hslot]; nofun), State.oweIdle, State.setActive_slot, hslot]
      rfl
    · refine State.loseJob_other fun k hk => ?_
      cases (hactive.trans h).symm.trans hk
      exact hn

theorem NoticeSet.unprompted {u : NoticeSet} (h : u.prompt = false) : { u with prompt := false } = u := by
  rw [← h]

/-- The record of a lost slot in one port's set. -/
def NoticeSet.slotLost (u : NoticeSet) (r : SlotRec) (n : SlotId) : NoticeSet :=
  match r.state, r.point with
  | .bound, some p => u.record .nodeLost (.point p)
  | .foreign, _ => u.record .nodeLost (.slot n)
  | _, _ => u

theorem State.tellSlotLost_notice (s : State) (r : SlotRec) (n : SlotId) (q : Port) :
    (s.tellSlotLost r n).notice q = (s.notice q).slotLost r n := by
  unfold State.tellSlotLost NoticeSet.slotLost
  cases r.state with
  | bound => cases r.point with
    | none => rfl
    | some p => exact State.notifyAll_notice ..
  | foreign => exact State.notifyAll_notice ..
  | _ => rfl

theorem NoticeSet.slotLost_unprompted {u : NoticeSet} (h : u.prompt = false) (r : SlotRec) (n : SlotId) :
    { u.slotLost r n with prompt := false } = match r.state, r.point with
      | .bound, some p => { u.record .nodeLost (.point p) with prompt := false }
      | .foreign, _ => { u.record .nodeLost (.slot n) with prompt := false }
      | _, _ => u := by
  unfold NoticeSet.slotLost
  cases r.state with
  | bound => cases r.point with
    | none => exact NoticeSet.unprompted h
    | some p => rfl
  | foreign => rfl
  | _ => exact NoticeSet.unprompted h

/-- Settles O24: the loss in its steps, then what each step leaves of the slots, points, groups and notices. -/
theorem slotLossEmptiesAndUnbinds : Obligations.SlotLossEmptiesAndUnbinds := by
  unfold Obligations.SlotLossEmptiesAndUnbinds
  intro s n hrun hquiet hbinding hstate hmiss
  dsimp only
  have hgone : ((s.slotFreed n).slot n) = (s.slot n).emptied := by
    rw [State.slot, s.slotFreed_slots n]
    exact (s.slotGone_slot n n).trans (if_pos rfl)
  have hleft : ((s.slotFreed n).slot n).state ≠ .joining := by
    rw [hgone]
    nofun
  let t := ((((s.slotFreed n).loseJob n).tellSlotLost (s.slot n) n).startJob).flushPrompts
  have htells := ((s.slotFreed n).loseJob n).tellSlotLost_notices (s.slot n) n
  have hserves := State.startJob_serves (((s.slotFreed n).loseJob n).tellSlotLost (s.slot n) n)
  have hslots : ∀ k, t.slot k = ((s.slotFreed n).loseJob n).slot k := fun k => by
    rw [State.flushPrompts_slot, State.slot, hserves.slots, htells]
    rfl
  have hpoints : ∀ p, t.point p = if (s.slot n).point = some p then (s.point p).unbound else s.point p := fun p => by
    rw [State.flushPrompts_point, State.point, hserves.points, htells, ← s.slotFreed_point n p, State.point,
      ← State.loseJob_points hleft]
  have hgroups : ∀ g, t.group g = (s.slotFreed n).group g := fun g => by
    rw [State.flushPrompts_group, State.group, hserves.binds.groups, htells, State.group,
      ← ((s.slotFreed n).loseJob_binds n).groups]
  have hjoin : ∀ e ∈ (((s.slotFreed n).loseJob n).tellSlotLost (s.slot n) n).service.joinList, e.slot ≠ n := by
    rw [htells]
    change ∀ e ∈ ((s.slotFreed n).loseJob n).service.joinList, e.slot ≠ n
    rw [State.loseJob_joinList hleft, s.slotFreed_service n]
    exact fun e he => State.slotGone_joinList he
  have hslot : t.slot n = { (s.slot n).emptied with idleOwed := (t.slot n).idleOwed } := by
    rw [hslots n, ← hgone]
    exact (State.loseJob_slot hleft n).trans (if_pos rfl)
  refine ⟨t, ?exec, ?steps, ?_, ?_, ?_, ?_, ?_, ?_, ?_, ?_, fun e he => hjoin e ?_, fun j hj => ?active, fun k hk => ?_,
    fun p hp => ⟨?_, fun g hg => ?_⟩, fun p hp => ?_, fun hother hsome hrest q => ?notices⟩
  case exec => rw [exec_slotLost hrun hstate hmiss, State.slotIsLost_eq hbinding hstate]
  case steps =>
    change State.flushPrompts _ = _
    rw [State.slotFreed_loseJob, State.slotFreed_eq]
    rfl
  iterate 8 rw [hslot]; rfl
  · rw [State.flushPrompts_service] at he
    exact State.startJob_joinList he
  case active =>
    rw [State.flushPrompts_service] at hj
    refine State.startJob_active (fun k hk => ?_) hjoin (fun p hp => ?_) j hj
    · rw [htells] at hk
      exact State.loseJob_active hleft k hk
    · have hpoint := hpoints p
      rw [State.flushPrompts_point, State.point, hserves.points] at hpoint
      rw [State.point, hpoint] at hp
      split_ifs at hp with hcarried
      · cases hp
      · exact hcarried ((hbinding.oneToOne n p).mpr hp)
  · rw [hslots k, State.loseJob_slot hleft, if_neg hk, State.slot, s.slotFreed_slots n]
    exact (s.slotGone_slot n k).trans (if_neg hk)
  · rw [hpoints p, if_pos hp]
    rfl
  · rw [hgroups g, State.slotFreed_group hp hg]
  · rw [hpoints p, if_neg hp]
  case notices =>
    have hkept : (s.slotFreed n).loseJob n = s.slotFreed n := State.loseJob_other fun j hj =>
      hother j ((congrArg Service.active (s.slotFreed_service n)).symm.trans hj)
    obtain ⟨j, hactive⟩ := Option.ne_none_iff_exists'.mp hsome
    have hbusy : (((s.slotFreed n).loseJob n).tellSlotLost (s.slot n) n).startJob =
        (s.slotFreed n).tellSlotLost (s.slot n) n := by
      rw [hkept]
      refine State.startJob_busy (j := j) ?_
      rw [State.tellSlotLost_notices]
      exact (congrArg Service.active (s.slotFreed_service n)).trans hactive
    have hnotice : (s.slotFreed n).notice q = s.notice q :=
      congrArg (PerPort.get · q) (State.slotFreed_rest hrest)
    rw [State.flushPrompts_notice, hbusy, State.tellSlotLost_notice, hnotice]
    exact (NoticeSet.slotLost_unprompted (hquiet q) (s.slot n) n).trans rfl

end Sys2Proof.Machine
end

section
/-!
A valid field of a BOUND slot (O25).
-/
namespace Sys2Proof.Machine

open Sys2Proof

/-! ## What the other blocks leave of the points -/

/-- t keeps every point of s but p, and of p the position, the binding and the modes and masks of the stop inputs. -/
structure State.KeepsPoint (s t : State) (p : PointId) : Prop where
  others : ∀ x, x ≠ p → t.point x = s.point x
  raw : (t.point p).raw = (s.point p).raw
  boundSlot : (t.point p).boundSlot = (s.point p).boundSlot
  modes : (t.point p).stop.modes = (s.point p).stop.modes
  masks : (t.point p).stop.masks = (s.point p).stop.masks

/-- t keeps the stop flags of p as well. -/
structure State.SparesPoint (s t : State) (p : PointId) : Prop extends s.KeepsPoint t p where
  flags : (t.point p).stop.flags = (s.point p).stop.flags

theorem State.KeepsPoint.trans {s t u : State} {p : PointId} (h : s.KeepsPoint t p) (h' : t.KeepsPoint u p) :
    s.KeepsPoint u p :=
  ⟨fun x hx => (h'.others x hx).trans (h.others x hx), h'.raw.trans h.raw, h'.boundSlot.trans h.boundSlot,
    h'.modes.trans h.modes, h'.masks.trans h.masks⟩

theorem State.SparesPoint.trans {s t u : State} {p : PointId} (h : s.SparesPoint t p) (h' : t.SparesPoint u p) :
    s.SparesPoint u p :=
  ⟨h.toKeepsPoint.trans h'.toKeepsPoint, h'.flags.trans h.flags⟩

theorem State.spares_of_points {s t : State} (h : t.points = s.points) (p : PointId) : s.SparesPoint t p := by
  have hpoint : ∀ x, t.point x = s.point x := fun x => congrArg (fun v : Vector PointRec 48 => v[x]) h
  refine ⟨⟨fun x _ => hpoint x, ?_, ?_, ?_, ?_⟩, ?_⟩ <;> rw [hpoint]

theorem State.MovesTo.spares {s t : State} (h : s.MovesTo t) (p : PointId) : s.SparesPoint t p :=
  State.spares_of_points h.points p

theorem State.SparesPoint.refl (s : State) (p : PointId) : s.SparesPoint s p := State.spares_of_points rfl p

theorem State.spares_setGroup (s : State) (g : GroupId) (r : GroupRec) (p : PointId) :
    s.SparesPoint (s.setGroup g r) p :=
  State.spares_of_points (s := s) (t := s.setGroup g r) rfl p

theorem State.spares_notifyAll (s : State) (k : NoticeKind) (u : Subject) (p : PointId) :
    s.SparesPoint (s.notifyAll k u) p :=
  State.spares_of_points (s := s) (t := s.notifyAll k u) rfl p

theorem State.keeps_setPoint (s : State) (p : PointId) (r : PointRec) (hraw : r.raw = (s.point p).raw)
    (hbound : r.boundSlot = (s.point p).boundSlot) (hmodes : r.stop.modes = (s.point p).stop.modes)
    (hmasks : r.stop.masks = (s.point p).stop.masks) : s.KeepsPoint (s.setPoint p r) p := by
  refine ⟨fun x hx => (s.setPoint_point p r x).trans (if_neg hx), ?_, ?_, ?_, ?_⟩ <;>
    rw [State.setPoint_point, if_pos rfl] <;> assumption

theorem State.spares_setLoad (s : State) (p : PointId) (l : LoadPart) : s.SparesPoint (s.setLoad p l) p :=
  ⟨s.keeps_setPoint p _ rfl rfl rfl rfl, by rw [State.setLoad, State.setPoint_point, if_pos rfl]⟩

theorem State.spares_learn (s : State) (d : Dir) (m : Member) : s.SparesPoint (s.learn d m) m.point := by
  unfold State.learn
  split
  · exact ⟨s.keeps_setPoint _ _ rfl rfl rfl rfl, by rw [State.setPoint_point, if_pos rfl]⟩
  · exact .refl s _

theorem State.spares_memberDone (s : State) (g : GroupId) (m : Member) :
    s.SparesPoint (s.memberDone g m) m.point := by
  unfold State.memberDone
  dsimp only
  have hlearn := (s.spares_setGroup g ((s.group g).updMember m.point fun x => { x with state := .done }) m.point).trans
    (State.spares_learn _ (s.group g).dir m)
  refine State.SparesPoint.trans ?_ ((State.complete_moves _ g).spares _)
  split_ifs
  · exact hlearn.trans ((State.notifyHolder_moves ..).spares _)
  · exact hlearn

theorem State.spares_checkArrival (s : State) (g : GroupId) (m : Member) :
    s.SparesPoint (s.checkArrival g m) m.point := by
  unfold State.checkArrival
  dsimp only
  split_ifs
  · exact (s.spares_setGroup g _ m.point).trans (State.spares_memberDone _ g (s.releaseMember (s.group g).dir m))
  · exact s.spares_setGroup g _ m.point
  · exact .refl s _

theorem State.spares_checkReporter (s : State) (g : GroupId) (p : PointId) : s.SparesPoint (s.checkReporter g p) p := by
  unfold State.checkReporter
  split
  next m hm =>
    obtain ⟨-, rfl⟩ := GroupRec.member_mem hm
    split_ifs
    · split
      · exact s.spares_checkArrival g m
      · exact (State.checkJogLimit_moves ..).spares _
    · exact .refl s _
  next => exact .refl s _

theorem State.spares_positionReport (s : State) (p : PointId) : s.SparesPoint (s.positionReport p) p := by
  unfold State.positionReport
  split
  · exact .refl s _
  · split_ifs
    · split
      · exact (State.faultGroup_moves ..).spares _
      · exact (s.spares_setGroup _ _ p).trans (State.spares_checkReporter _ _ p)
    · exact .refl s _

theorem State.spares_senseChange (s : State) (p : PointId) (v : Sense) : s.SparesPoint (s.senseChange p v) p := by
  unfold State.senseChange
  split
  · exact .refl s _
  next g _ =>
    split
    · exact .refl s _
    next m hm =>
      obtain ⟨-, rfl⟩ := GroupRec.member_mem hm
      split
      · split_ifs
        · exact s.spares_setGroup g _ m.point
        · exact .refl s _
        · exact (State.faultGroup_moves ..).spares _
      · split_ifs
        · exact s.spares_memberDone g m
        · exact .refl s _
      · split_ifs
        · exact (State.endStopping_moves ..).spares _
        · exact .refl s _
      · exact .refl s _

/-! ### Loads -/

theorem State.spares_evaluateOverload (s : State) (p : PointId) : s.SparesPoint (s.evaluateOverload p) p := by
  unfold State.evaluateOverload
  dsimp only
  split
  · exact s.spares_setLoad p _
  · exact (s.spares_setLoad p _).trans (State.spares_notifyAll _ _ _ p)
  · exact ((s.spares_setLoad p _).trans (State.spares_notifyAll _ _ _ p)).trans ((State.faultPoint_moves _ p .overload).spares p)

theorem State.spares_evaluateUnderload (s : State) (p : PointId) : s.SparesPoint (s.evaluateUnderload p) p := by
  unfold State.evaluateUnderload
  dsimp only
  split
  · exact s.spares_setLoad p _
  · exact (s.spares_setLoad p _).trans (State.spares_notifyAll _ _ _ p)
  · exact ((s.spares_setLoad p _).trans (State.spares_notifyAll _ _ _ p)).trans ((State.underloadFault_moves _ p).spares p)

theorem State.spares_evaluateLoads (s : State) (p : PointId) : s.SparesPoint (s.evaluateLoads p) p := by
  unfold State.evaluateLoads
  split_ifs
  · exact .refl s p
  · exact (s.spares_evaluateOverload p).trans (State.spares_evaluateUnderload _ p)

theorem State.spares_dutyNote (s : State) (p : PointId) (before after : Bool) :
    s.SparesPoint (s.dutyNote p before after) p := by
  unfold State.dutyNote
  split_ifs
  · exact .refl s p
  · exact s.spares_notifyAll _ _ p
  · exact s.spares_notifyAll _ _ p

theorem State.spares_loadArrival (s : State) (n : SlotId) (p : PointId) (r : Code) :
    s.SparesPoint (s.loadArrival n p r) p := by
  rw [State.loadArrival_eq]
  exact (((s.spares_setLoad p _).trans (State.spares_dutyNote _ p _ _)).trans (State.spares_evaluateLoads _ p)).trans
    ((State.shareArrival_moves _ p).spares p)

/-! ### The Stop Unit -/

theorem State.keeps_setStop (s : State) (p : PointId) (t : StopPart) (hmodes : t.modes = (s.point p).stop.modes)
    (hmasks : t.masks = (s.point p).stop.masks) : s.KeepsPoint (s.setStop p t) p :=
  s.keeps_setPoint p _ rfl rfl hmodes hmasks

theorem State.tripMains_points (s : State) (c : TripCause) : (s.tripMains c).points = s.points := by
  unfold State.tripMains
  split_ifs
  · exact State.fold_keeps (fun t => t.points = s.points) _
      (fun _ _ h => ((State.faultGroup_moves ..).points).trans h) _ _ rfl
  · rfl

theorem State.spares_runaway (s : State) (p : PointId) : s.SparesPoint (s.runaway p) p := by
  unfold State.runaway
  split_ifs
  · exact .refl s p
  · have hset : s.SparesPoint (s.setStop p { (s.point p).stop with runaway := true }) p :=
      ⟨s.keeps_setStop p _ rfl rfl, by rw [State.setStop, State.setPoint_point, if_pos rfl]⟩
    exact (hset.trans (State.spares_notifyAll _ .runaway (.point p) p)).trans
      (State.spares_of_points (State.tripMains_points _ (.runaway p)) p)

theorem State.spares_examineRunaway (s : State) (p : PointId) (v : Sense) : s.SparesPoint (s.examineRunaway p v) p := by
  unfold State.examineRunaway
  split_ifs
  · exact s.spares_runaway p
  · exact .refl s p

theorem State.stopInputFault_points (s : State) (p : PointId) (k : StopKind) :
    (s.stopInputFault p k).points = s.points := by
  unfold State.stopInputFault
  split
  · split_ifs
    · exact (State.faultPoint_moves ..).points
    · rfl
  · rfl

/-- R119: the flag of kind k by Table 6-2. -/
theorem State.stopFlag_points (s : State) (p : PointId) (before now : PerKind Bool) (k : StopKind) :
    (s.stopFlag p before now k).points = (s.setStop p { (s.point p).stop with
      flags := (s.point p).stop.flags.set k (flagAfter ((s.point p).stop.modes.get k) (before.get k) (now.get k)
        ((s.point p).stop.flags.get k)) }).points := by
  unfold State.stopFlag
  dsimp only
  split_ifs
  · rw [State.stopInputFault_points, State.notifyAll_points]
  · rfl

/-- R119 for the kinds of a list: the flags of these kinds follow Table 6-2. -/
theorem State.keeps_stopFlags (p : PointId) (before now : PerKind Bool) (l : List StopKind) (s : State) :
    s.KeepsPoint (l.foldl (fun t k => t.stopFlag p before now k) s) p ∧ (l.Nodup → ∀ k,
      ((l.foldl (fun t k => t.stopFlag p before now k) s).point p).stop.flags.get k =
        if k ∈ l then flagAfter ((s.point p).stop.modes.get k) (before.get k) (now.get k) ((s.point p).stop.flags.get k)
        else (s.point p).stop.flags.get k) := by
  induction l generalizing s with
  | nil => exact ⟨(State.SparesPoint.refl s p).toKeepsPoint, fun _ k => (if_neg List.not_mem_nil).symm⟩
  | cons x rest ih =>
    have hpoint : ∀ q, (s.stopFlag p before now x).point q = (s.setStop p { (s.point p).stop with
        flags := (s.point p).stop.flags.set x (flagAfter ((s.point p).stop.modes.get x) (before.get x) (now.get x)
          ((s.point p).stop.flags.get x)) }).point q := fun q =>
      congrArg (fun v : Vector PointRec 48 => v[q]) (s.stopFlag_points p before now x)
    have hself : ((s.stopFlag p before now x).point p).stop = { (s.point p).stop with
        flags := (s.point p).stop.flags.set x (flagAfter ((s.point p).stop.modes.get x) (before.get x) (now.get x)
          ((s.point p).stop.flags.get x)) } := by
      rw [hpoint, State.setStop, State.setPoint_point, if_pos rfl]
    obtain ⟨hkeeps, hflags⟩ := ih (s.stopFlag p before now x)
    refine ⟨State.KeepsPoint.trans ?_ hkeeps, fun hnodup k => ?_⟩
    · refine State.KeepsPoint.trans ?_ (State.spares_of_points (s.stopFlag_points p before now x) p).toKeepsPoint
      exact s.keeps_setStop p _ rfl rfl
    · obtain ⟨hx, hrest⟩ := List.nodup_cons.mp hnodup
      rw [List.foldl_cons, hflags hrest k, hself]
      simp only [PerKind.get_set, List.mem_cons]
      by_cases hk : k = x
      · subst hk
        simp [hx]
      · simp [hk]

/-- R119, R125: the Stop Unit's share of an indication change. -/
theorem State.keeps_stopUnitChange (s : State) (p : PointId) (before : Option Indication) (v : Indication) :
    s.KeepsPoint (s.stopUnitChange p before v) p ∧ ∀ k, ((s.stopUnitChange p before v).point p).stop.flags.get k =
      flagAfter ((s.point p).stop.modes.get k) ((stopsOf before).get k) (v.stops.get k) ((s.point p).stop.flags.get k) := by
  obtain ⟨hkeeps, hflags⟩ := State.keeps_stopFlags p (stopsOf before) v.stops allKinds s
  have hruns := State.spares_examineRunaway (allKinds.foldl (fun t k => t.stopFlag p (stopsOf before) v.stops k) s) p v.sense
  refine ⟨hkeeps.trans hruns.toKeepsPoint, fun k => ?_⟩
  rw [State.stopUnitChange, hruns.flags, hflags (by decide) k, if_pos (by cases k <;> decide)]

/-! ### The Service Engine -/

section Taken

variable {s : State} {p : PointId} {n : SlotId}

theorem State.spares_calReadDone {j : Job} (hslot : j.slot = n) (hone : ∀ x, (s.point x).boundSlot = some n → x = p)
    (o : ServiceOutcome) : s.SparesPoint (s.calReadDone j o) p := by
  unfold State.calReadDone
  split
  · exact .refl s p
  next x _ _ =>
    split_ifs with hbound
    · obtain rfl := hone x (hslot ▸ ((State.stillBound_iff ..).mp hbound).1)
      exact (s.spares_setLoad x _).trans (State.spares_notifyAll _ _ _ x)
    · exact s.spares_notifyAll _ _ p
  · exact s.spares_notifyAll _ _ p

theorem State.spares_notify (s : State) (q : Port) (k : NoticeKind) (u : Subject) (p : PointId) :
    s.SparesPoint (s.notify q k u) p :=
  State.spares_of_points (s := s) (t := s.notify q k u) rfl p

theorem State.spares_portJobDone {j : Job} (hslot : j.slot = n) (hone : ∀ x, (s.point x).boundSlot = some n → x = p)
    (q : Port) (o : ServiceOutcome) : s.SparesPoint (s.portJobDone j q o) p := by
  unfold State.portJobDone
  split
  · exact .refl s p
  next x _ _ =>
    split_ifs with hbound
    · obtain rfl := hone x (hslot ▸ ((State.stillBound_iff ..).mp hbound).1)
      exact (s.spares_setLoad x _).trans (State.spares_notify _ q _ _ x)
    · exact s.spares_notify q _ _ p
  · exact s.spares_notify q _ _ p

/-- The end of a job of a BOUND slot touches the slot's own point at most, and no slot. -/
theorem State.jobDone_bound {j : Job} (hslot : j.slot = n) (hstate : (s.slot n).state = .bound)
    (hone : ∀ x, (s.point x).boundSlot = some n → x = p) (o : ServiceOutcome) :
    s.SparesPoint (s.jobDone j o) p ∧ (s.jobDone j o).slots = s.slots := by
  subst hslot
  have hjoining : (s.slot j.slot).state ≠ .joining := hstate.trans_ne nofun
  have hport : ∀ q, s.SparesPoint (s.portJobDone j q o) p ∧ (s.portJobDone j q o).slots = s.slots := fun q =>
    ⟨State.spares_portJobDone rfl hone q o, by
      unfold State.portJobDone
      split
      · rfl
      · split_ifs <;> rfl
      · rfl⟩
  have hread : s.SparesPoint (s.calReadDone j o) p ∧ (s.calReadDone j o).slots = s.slots :=
    ⟨State.spares_calReadDone rfl hone o, by
      unfold State.calReadDone
      split
      · rfl
      · split_ifs <;> rfl
      · rfl⟩
  have hidle : ∀ x, s.identDone j x = s := fun x => by
    unfold State.identDone
    exact if_pos hjoining
  have hfailed : s.identFailed j.slot = s := if_neg hjoining
  unfold State.jobDone
  split
  · exact hport _
  · rw [hidle]
    exact ⟨.refl s p, rfl⟩
  · rw [hfailed]
    exact ⟨.refl s p, rfl⟩
  · exact hread

theorem State.finishJob_bound {j : Job} (hactive : s.service.active = some j) (hslot : j.slot = n)
    (hstate : (s.slot n).state = .bound) (hone : ∀ x, (s.point x).boundSlot = some n → x = p) (e : JobEnd) :
    s.SparesPoint (s.endJob e) p ∧ ∀ k, (s.endJob e).slot k =
      if k = n then { s.slot n with idleOwed := ((s.endJob e).slot n).idleOwed } else s.slot k := by
  have hstart := State.startJob_serves (s.finishJob e)
  suffices h : s.SparesPoint (s.finishJob e) p ∧ ∀ k, (s.finishJob e).slot k =
      if k = n then { s.slot n with idleOwed := ((s.finishJob e).slot n).idleOwed } else s.slot k by
    obtain ⟨hspares, hslots⟩ := h
    have heach : ∀ k, (s.endJob e).slot k = (s.finishJob e).slot k := fun k =>
      congrArg (fun v : Vector SlotRec 48 => v[k]) hstart.slots
    refine ⟨hspares.trans (State.spares_of_points hstart.points p), fun k => ?_⟩
    rw [heach, heach]
    exact hslots k
  rw [State.finishJob_eq hactive]
  split_ifs
  · obtain ⟨hspares, hslots⟩ := State.jobDone_bound (s := s.setActive none) hslot hstate hone (j.kind.outcome e)
    have heach : ∀ k, ((s.setActive none).jobDone j (j.kind.outcome e)).slot k = s.slot k := fun k =>
      congrArg (fun v : Vector SlotRec 48 => v[k]) hslots
    refine ⟨(State.spares_of_points (s := s) (t := s.setActive none) rfl p).trans hspares, fun k => ?_⟩
    rw [heach, heach]
    split_ifs with hk
    · rw [hk]
    · rfl
  · have howed : ∀ k, ((s.setActive none).oweIdle j.slot).slot k =
        if k = n then { s.slot n with idleOwed := 2 } else s.slot k := fun k => by
      rw [State.oweIdle_slot, hslot]
      rfl
    obtain ⟨hspares, hslots⟩ := State.jobDone_bound (s := (s.setActive none).oweIdle j.slot) hslot
      (by rw [howed, if_pos rfl]; exact hstate) hone (j.kind.outcome e)
    have heach : ∀ k, (((s.setActive none).oweIdle j.slot).jobDone j (j.kind.outcome e)).slot k =
        if k = n then { s.slot n with idleOwed := 2 } else s.slot k := fun k =>
      (congrArg (fun v : Vector SlotRec 48 => v[k]) hslots).trans (howed k)
    refine ⟨(State.spares_of_points (s := s) (t := (s.setActive none).oweIdle j.slot) rfl p).trans hspares, fun k => ?_⟩
    rw [heach, heach, if_pos rfl]

/-- R35 to R38: a field leaves the Service Engine alone, moves the active job on, or ends it. -/
theorem State.serviceTaken_cases (s : State) (n : SlotId) (o : Byte) (m : Mark) : s.serviceTaken n o m = s ∨
    (∃ j, s.serviceTaken n o m = s.setActive (some j)) ∨
      ∃ j e, s.service.active = some j ∧ j.slot = n ∧ s.serviceTaken n o m = s.endJob e := by
  cases hactive : s.service.active with
  | none =>
    unfold State.serviceTaken
    rw [hactive]
    exact .inl rfl
  | some j =>
    by_cases hslot : j.slot = n
    · subst hslot
      cases hphase : j.phase with
      | sending =>
        rcases Nat.eq_zero_or_pos j.count with hcount | hcount
        · exact .inl (State.serviceTaken_unplaced hactive hphase hcount o m)
        · rw [State.serviceTaken_sending hactive hphase hcount]
          split_ifs
          · exact .inr (.inr ⟨j, .aborted, rfl, rfl, rfl⟩)
          · exact .inr (.inl ⟨_, rfl⟩)
          · exact .inr (.inl ⟨_, rfl⟩)
          · exact .inr (.inl ⟨_, rfl⟩)
      | ending k =>
        rw [State.serviceTaken_ending hactive hphase]
        split_ifs
        · exact .inr (.inr ⟨j, .aborted, rfl, rfl, rfl⟩)
        · exact .inr (.inl ⟨_, rfl⟩)
      | receiving =>
        rw [State.serviceTaken_receiving hactive hphase]
        split_ifs
        · exact .inr (.inl ⟨_, rfl⟩)
        · exact .inr (.inl ⟨_, rfl⟩)
        · exact .inr (.inr ⟨j, .response j.response, rfl, rfl, rfl⟩)
        · exact .inr (.inl ⟨_, rfl⟩)
      | aborting k => exact .inr (.inl ⟨_, State.serviceTaken_aborting hactive hphase o m⟩)
    · exact .inl (State.serviceTaken_other hactive (Ne.symm hslot) o m)

/-- R24 step 5 for a BOUND slot. -/
theorem State.serviceTaken_bound (hstate : (s.slot n).state = .bound)
    (hone : ∀ x, (s.point x).boundSlot = some n → x = p) (o : Byte) (m : Mark) :
    s.SparesPoint (s.serviceTaken n o m) p ∧ ∀ k, (s.serviceTaken n o m).slot k =
      if k = n then { s.slot n with idleOwed := ((s.serviceTaken n o m).slot n).idleOwed } else s.slot k := by
  have hsame : ∀ t : State, t.points = s.points → t.slots = s.slots → s.SparesPoint t p ∧ ∀ k, t.slot k =
      if k = n then { s.slot n with idleOwed := (t.slot n).idleOwed } else s.slot k := by
    intro t hpoints hslots
    have heach : ∀ k, t.slot k = s.slot k := fun k => congrArg (fun v : Vector SlotRec 48 => v[k]) hslots
    refine ⟨State.spares_of_points hpoints p, fun k => ?_⟩
    rw [heach, heach]
    split_ifs with hk
    · rw [hk]
    · rfl
  obtain htaken | ⟨j, htaken⟩ | ⟨j, e, hactive, hslot, htaken⟩ := s.serviceTaken_cases n o m
  · rw [htaken]
    exact hsame s rfl rfl
  · rw [htaken]
    exact hsame (s.setActive (some j)) rfl rfl
  · rw [htaken]
    exact State.finishJob_bound hactive hslot hstate hone e

end Taken

end Sys2Proof.Machine
end

section
/-!
A valid field of a BOUND slot in its steps (O25).
-/
namespace Sys2Proof.Machine

open Sys2Proof

theorem State.stopInputFault_runs (s : State) (p : PointId) (k : StopKind) : s.RunsTo (s.stopInputFault p k) := by
  unfold State.stopInputFault
  split
  · split_ifs
    · exact (State.faultPoint_moves ..).runs
    · rfl
  · rfl

theorem State.stopFlag_runs (s : State) (p : PointId) (before now : PerKind Bool) (k : StopKind) :
    s.RunsTo (s.stopFlag p before now k) := by
  unfold State.stopFlag
  dsimp only
  split_ifs
  · exact .trans (t := (s.setStop p _).notifyAll .stopInput (.point p)) rfl (State.stopInputFault_runs ..)
  · rfl

theorem State.stopUnitChange_runs (s : State) (p : PointId) (before : Option Indication) (v : Indication) :
    s.RunsTo (s.stopUnitChange p before v) := by
  have hflags : s.RunsTo (allKinds.foldl (fun t k => t.stopFlag p (stopsOf before) v.stops k) s) :=
    State.fold_keeps s.RunsTo _ (fun _ _ h => h.trans (State.stopFlag_runs ..)) _ _ (.refl s)
  refine hflags.trans ?_
  unfold State.stopUnitChange State.examineRunaway
  split_ifs
  · exact State.runaway_runs ..
  · rfl

theorem State.motionChange_runs (s : State) (p : PointId) (before : Option Indication) (v : Indication) :
    s.RunsTo (s.motionChange p before v) := by
  unfold State.motionChange
  split_ifs
  · rfl
  · exact State.senseChange_runs ..

theorem State.spares_motionChange (s : State) (p : PointId) (before : Option Indication) (v : Indication) :
    s.SparesPoint (s.motionChange p before v) p := by
  unfold State.motionChange
  split_ifs
  · exact .refl s p
  · exact s.spares_senseChange p v.sense

/-- R28: the accepted indication takes the new value. -/
def State.indicated (s : State) (n : SlotId) (v : Indication) : State :=
  { s.setSlot n { s.slot n with accepted := some v } with choice := s.choice + 1 }

theorem State.indicationChange_eq (s : State) (n : SlotId) (p : PointId) (v : Indication) : s.indicationChange n p v =
    if Config.stopUnitFirst s.choice then
      ((s.indicated n v).stopUnitChange p (s.slot n).accepted v).motionChange p (s.slot n).accepted v
    else ((s.indicated n v).motionChange p (s.slot n).accepted v).stopUnitChange p (s.slot n).accepted v := rfl

theorem State.indicationChange_setSlot (s : State) (n : SlotId) (p : PointId) (r : SlotRec) (v : Indication) :
    let d := { s.setSlot n { r with accepted := some v } with choice := s.choice + 1 }
    (s.setSlot n r).indicationChange n p v =
      if Config.stopUnitFirst s.choice then (d.stopUnitChange p r.accepted v).motionChange p r.accepted v
      else (d.motionChange p r.accepted v).stopUnitChange p r.accepted v := by
  have hslot : (s.setSlot n r).slot n = r := (State.setSlot_slot ..).trans (if_pos rfl)
  have hindicated : (s.setSlot n r).indicated n v =
      { s.setSlot n { r with accepted := some v } with choice := s.choice + 1 } := by
    rw [State.indicated, hslot, State.setSlot_setSlot]
    rfl
  rw [State.indicationChange_eq, hindicated, hslot]
  rfl

theorem State.spares_indicated (s : State) (n : SlotId) (v : Indication) (p : PointId) :
    s.SparesPoint (s.indicated n v) p :=
  State.spares_of_points (s := s) (t := s.indicated n v) rfl p

theorem State.indicationChange_slots (s : State) (n : SlotId) (p : PointId) (v : Indication) :
    (s.indicationChange n p v).slots = (s.setSlot n { s.slot n with accepted := some v }).slots := by
  rw [State.indicationChange_eq]
  split_ifs
  · rw [(State.motionChange_runs ..).slots, (State.stopUnitChange_runs ..).slots]
    rfl
  · rw [(State.stopUnitChange_runs ..).slots, (State.motionChange_runs ..).slots]
    rfl

/-- R28: the order of the two deliveries leaves the point and its flags the same. -/
theorem State.keeps_indicationChange (s : State) (n : SlotId) (p : PointId) (v : Indication) :
    s.KeepsPoint (s.indicationChange n p v) p ∧ ∀ k, ((s.indicationChange n p v).point p).stop.flags.get k =
      flagAfter ((s.point p).stop.modes.get k) ((stopsOf (s.slot n).accepted).get k) (v.stops.get k)
        ((s.point p).stop.flags.get k) := by
  have htold := s.spares_indicated n v p
  rw [State.indicationChange_eq]
  split_ifs
  · obtain ⟨hkeeps, hflags⟩ := (s.indicated n v).keeps_stopUnitChange p (s.slot n).accepted v
    have hmotion := State.spares_motionChange ((s.indicated n v).stopUnitChange p (s.slot n).accepted v) p
      (s.slot n).accepted v
    exact ⟨(htold.toKeepsPoint.trans hkeeps).trans hmotion.toKeepsPoint, fun k => by
      rw [hmotion.flags, hflags k, htold.modes, htold.flags]⟩
  · have hmotion := htold.trans ((s.indicated n v).spares_motionChange p (s.slot n).accepted v)
    obtain ⟨hkeeps, hflags⟩ := State.keeps_stopUnitChange ((s.indicated n v).motionChange p (s.slot n).accepted v) p
      (s.slot n).accepted v
    exact ⟨hmotion.toKeepsPoint.trans hkeeps, fun k => by rw [hflags k, hmotion.modes, hmotion.flags]⟩

theorem State.accepts_iff (s : State) (n : SlotId) (v : Indication) :
    s.accepts n v = true ↔ s.bus.mode = .single ∨ (s.slot n).candidate = some v := by
  unfold State.accepts
  cases s.bus.mode <;> simp

/-! ## Indication acceptance (R26 to R28) -/

section Accepts

variable {s : State} {n : SlotId} {p : PointId} (hstate : (s.slot n).state = .bound) (hpoint : (s.slot n).point = some p)
include hstate hpoint

theorem State.takeIndication_kept {i : Option Indication} (h : ∀ v, i = some v →
    ¬ ((s.bus.mode = .single ∨ (s.slot n).candidate = some v) ∧ (s.slot n).accepted ≠ some v)) :
    s.takeIndication n i = s.setSlot n { s.slot n with candidate := i } := by
  unfold State.takeIndication
  rw [hstate, hpoint]
  cases i with
  | none => rfl
  | some v => exact if_neg fun hboth => h v rfl ⟨(s.accepts_iff n v).mp hboth.1, hboth.2⟩

theorem State.takeIndication_changed {v : Indication}
    (htakes : s.bus.mode = .single ∨ (s.slot n).candidate = some v) (hchange : (s.slot n).accepted ≠ some v) :
    s.takeIndication n (some v) = (s.setSlot n { s.slot n with candidate := some v }).indicationChange n p v := by
  unfold State.takeIndication
  rw [hstate, hpoint]
  exact if_pos ⟨(s.accepts_iff n v).mpr htakes, hchange⟩

/-- R26 to R28 in the order of R24. -/
theorem State.takeIndication_steps (i : Option Indication) : s.takeIndication n i =
    match i with
    | some w =>
      if (i ≠ none ∧ (s.bus.mode = .single ∨ (s.slot n).candidate = i)) ∧ (s.slot n).accepted ≠ i then
        let d := { s.setSlot n { s.slot n with candidate := i, accepted := i } with choice := s.choice + 1 }
        if Config.stopUnitFirst s.choice then
          (d.stopUnitChange p (s.slot n).accepted w).motionChange p (s.slot n).accepted w
        else (d.motionChange p (s.slot n).accepted w).stopUnitChange p (s.slot n).accepted w
      else s.setSlot n { s.slot n with candidate := i }
    | none => s.setSlot n { s.slot n with candidate := i } := by
  cases i with
  | none => exact State.takeIndication_kept hstate hpoint nofun
  | some w =>
    dsimp only
    split_ifs with htaken hfirst
    · rw [State.takeIndication_changed hstate hpoint htaken.1.2 htaken.2, State.indicationChange_setSlot]
      exact if_pos hfirst
    · rw [State.takeIndication_changed hstate hpoint htaken.1.2 htaken.2, State.indicationChange_setSlot]
      exact if_neg hfirst
    · exact State.takeIndication_kept hstate hpoint fun v hv hboth => by
        cases hv
        exact htaken ⟨⟨nofun, hboth.1⟩, hboth.2⟩

/-- R26 to R28: what a field's indication leaves of the point, its flags and the slots. -/
theorem State.takeIndication_bound (i : Option Indication) :
    let takes := i ≠ none ∧ (s.bus.mode = .single ∨ (s.slot n).candidate = i)
    s.KeepsPoint (s.takeIndication n i) p ∧
      (∀ k, (s.takeIndication n i).slot k = if k = n then { s.slot n with
        candidate := i, accepted := if takes then i else (s.slot n).accepted } else s.slot k) ∧
      ∀ k, ((s.takeIndication n i).point p).stop.flags.get k =
        if takes ∧ (s.slot n).accepted ≠ i then
          flagAfter ((s.point p).stop.modes.get k) ((stopsOf (s.slot n).accepted).get k) ((stopsOf i).get k)
            ((s.point p).stop.flags.get k)
        else (s.point p).stop.flags.get k := by
  dsimp only
  by_cases htaken : (i ≠ none ∧ (s.bus.mode = .single ∨ (s.slot n).candidate = i)) ∧ (s.slot n).accepted ≠ i
  · obtain ⟨⟨hsome, htakes⟩, hchange⟩ := htaken
    obtain ⟨v, rfl⟩ := Option.ne_none_iff_exists'.mp hsome
    rw [State.takeIndication_changed hstate hpoint htakes hchange]
    have hcandidate := State.spares_of_points (s := s) (t := s.setSlot n { s.slot n with candidate := some v }) rfl p
    have hslot : (s.setSlot n { s.slot n with candidate := some v }).slot n = { s.slot n with candidate := some v } := by
      rw [State.setSlot_slot, if_pos rfl]
    obtain ⟨hkeeps, hflags⟩ := (s.setSlot n { s.slot n with candidate := some v }).keeps_indicationChange n p v
    refine ⟨hcandidate.toKeepsPoint.trans hkeeps, fun k => ?_, fun k => ?_⟩
    · have heach := congrArg (fun v : Vector SlotRec 48 => v[k])
        ((s.setSlot n { s.slot n with candidate := some v }).indicationChange_slots n p v)
      have haccepted : (if some v ≠ none ∧ (s.bus.mode = .single ∨ (s.slot n).candidate = some v) then some v
          else (s.slot n).accepted) = some v := if_pos ⟨hsome, htakes⟩
      refine heach.trans ((State.setSlot_slot ..).trans ?_)
      rw [hslot, haccepted]
      exact ite_congr rfl (fun _ => rfl) fun hk => (State.setSlot_slot ..).trans (if_neg hk)
    · rw [hflags k, hslot, if_pos ⟨⟨hsome, htakes⟩, hchange⟩]
      rfl
  · rw [State.takeIndication_kept hstate hpoint fun v hv hboth => by
      subst hv
      exact htaken ⟨⟨nofun, hboth.1⟩, hboth.2⟩]
    have hcandidate := State.spares_of_points (s := s) (t := s.setSlot n { s.slot n with candidate := i }) rfl p
    refine ⟨hcandidate.toKeepsPoint, fun k => ?_, fun k => by rw [hcandidate.flags, if_neg htaken]⟩
    have haccepted : (if i ≠ none ∧ (s.bus.mode = .single ∨ (s.slot n).candidate = i) then i
        else (s.slot n).accepted) = (s.slot n).accepted := by
      split_ifs with htakes
      · exact (not_not.mp (not_and.mp htaken htakes)).symm
      · rfl
    rw [State.setSlot_slot, haccepted]

end Accepts

/-! ## The field -/

theorem stopsOf_get (i : Option Indication) (k : StopKind) : (stopsOf i).get k = match i with
    | some w => w.stops.get k
    | none => false := by
  cases i with
  | none => cases k <;> rfl
  | some w => rfl

/-- R25: the position of the slot's point is stored and reported. -/
def State.positioned (s : State) (n : SlotId) (p : PointId) (x : Word16) : State :=
  ((s.setSlot n { s.slot n with miss := 0 }).setPoint p { s.point p with raw := some x }).positionReport p

theorem State.positioned_runs (s : State) (n : SlotId) (p : PointId) (x : Word16) :
    ((s.setSlot n { s.slot n with miss := 0 }).setPoint p { s.point p with raw := some x }).RunsTo (s.positioned n p x) :=
  State.positionReport_runs ..

theorem State.positioned_slot (s : State) (n : SlotId) (p : PointId) (x : Word16) (k : SlotId) :
    (s.positioned n p x).slot k = if k = n then { s.slot n with miss := 0 } else s.slot k :=
  (congrArg (fun v : Vector SlotRec 48 => v[k]) (s.positioned_runs n p x).slots).trans (State.setSlot_slot ..)

/-- Settles O25: the five steps in their order, each with what it leaves of the point and the slot. -/
theorem boundFieldIsTakenApart : Obligations.BoundFieldIsTakenApart := by
  unfold Obligations.BoundFieldIsTakenApart
  intro s n p u hrun hquiet hbinding hstate hpoint hvalid
  have hslotA := s.positioned_slot n p (upPosition u)
  have hslotN : (s.positioned n p (upPosition u)).slot n = { s.slot n with miss := 0 } := (hslotA n).trans (if_pos rfl)
  have hcount : s.countValid n = s.setSlot n { s.slot n with miss := 0 } :=
    State.countValid_present (hstate.trans_ne nofun)
  have hposition : (s.countValid n).takePosition n (upPosition u) = s.positioned n p (upPosition u) := by
    rw [hcount]
    exact State.takePosition_bound (by rw [State.setSlot_slot, if_pos rfl]; exact hstate)
      (by rw [State.setSlot_slot, if_pos rfl]; exact hpoint) _
  have hstateA : ((s.positioned n p (upPosition u)).slot n).state = .bound := by rw [hslotN]; exact hstate
  have hpointA : ((s.positioned n p (upPosition u)).slot n).point = some p := by rw [hslotN]; exact hpoint
  have hbusA : (s.positioned n p (upPosition u)).bus = s.bus := (s.positioned_runs n p _).bus
  have hchoiceA : (s.positioned n p (upPosition u)).choice = s.choice := (s.positioned_runs n p _).choice
  obtain ⟨hkeeps, hslots, hflags⟩ := State.takeIndication_bound hstateA hpointA (upIndication u)
  rw [hbusA, hslotN] at hslots hflags
  have hsteps := State.takeIndication_steps hstateA hpointA (upIndication u)
  rw [hbusA, hslotN, hchoiceA] at hsteps
  intro v takes before a b c e f
  have hc : (s.positioned n p (upPosition u)).takeIndication n v = c := hsteps
  rw [hc] at hkeeps hslots hflags
  have hslotC : c.slot n = { s.slot n with
      miss := 0, candidate := v, accepted := if takes then v else (s.slot n).accepted } := (hslots n).trans (if_pos rfl)
  have hspareE : c.SparesPoint e p := State.spares_of_points (s := c) (t := e) rfl p
  have hslotsE : ∀ k, e.slot k = if k = n then { c.slot n with lastSeq := some (upSeq u) } else c.slot k := fun k =>
    State.setSlot_slot ..
  have hsample : c.takeSample n (upSeq u) (upCode u) = f := by
    refine (State.takeSample_bound (p := p) (by rw [hslotC]; exact hstate) (by rw [hslotC]; exact hpoint) _ _).trans ?_
    rw [hslotC]
    rfl
  have hspareF : e.SparesPoint f p ∧ f.slots = e.slots := by
    change e.SparesPoint (if (s.slot n).lastSeq = none ∨ (s.slot n).lastSeq = some (upSeq u) then e
      else e.loadArrival n p (upCode u)) p ∧ (if (s.slot n).lastSeq = none ∨ (s.slot n).lastSeq = some (upSeq u) then e
        else e.loadArrival n p (upCode u)).slots = e.slots
    split_ifs
    · exact ⟨.refl e p, rfl⟩
    · exact ⟨e.spares_loadArrival n p _, (e.loadArrival_runs n p _).slots⟩
  have hslotsF : ∀ k, f.slot k = if k = n then { c.slot n with lastSeq := some (upSeq u) } else c.slot k := fun k =>
    (congrArg (fun v : Vector SlotRec 48 => v[k]) hspareF.2).trans (hslotsE k)
  have hbase : ∀ x, ((s.setSlot n { s.slot n with miss := 0 }).setPoint p { s.point p with
      raw := some (upPosition u) }).point x = if x = p then { s.point p with raw := some (upPosition u) } else s.point x :=
    State.setPoint_point _ p _
  have hspareA := State.spares_positionReport ((s.setSlot n { s.slot n with miss := 0 }).setPoint p { s.point p with
    raw := some (upPosition u) }) p
  have hkeepsF := (hspareA.toKeepsPoint.trans hkeeps).trans (hspareE.trans hspareF.1).toKeepsPoint
  have hslotF : f.slot n = { s.slot n with
      miss := 0, candidate := v, accepted := if takes then v else (s.slot n).accepted, lastSeq := some (upSeq u) } := by
    rw [hslotsF, if_pos rfl, hslotC]
  have hone : ∀ x, (f.point x).boundSlot = some n → x = p := fun x hx => by
    by_contra hne
    rw [hkeepsF.others x hne, hbase, if_neg hne] at hx
    exact hne (Option.some.inj (((hbinding.oneToOne n x).mpr hx).symm.trans hpoint))
  obtain ⟨hspareT, hslotsT⟩ := State.serviceTaken_bound (s := f) (p := p) (n := n) (by rw [hslotF]; exact hstate) hone
    u.b5 (upMark u)
  have hkeepsT := hkeepsF.trans hspareT.toKeepsPoint
  refine ⟨(f.serviceTaken n u.b5 (upMark u)).flushPrompts, ?exec, rfl, ?raw, ?slot, fun k hk => ?slots, fun x hx => ?points,
    ?modes, ?masks, fun k => ?flags⟩
  case exec =>
    rw [exec_upstreamField hrun, State.upstream_valid hvalid, State.validField, hposition, hc, hsample]
  case raw => rw [State.flushPrompts_point, hkeepsT.raw, hbase, if_pos rfl]
  case slot =>
    rw [State.flushPrompts_slot]
    refine ((hslotsT n).trans (if_pos rfl)).trans ?_
    rw [hslotF]
  case slots =>
    rw [State.flushPrompts_slot, hslotsT, if_neg hk, hslotsF, if_neg hk, hslots, if_neg hk, hslotA, if_neg hk]
  case points => rw [State.flushPrompts_point, hkeepsT.others x hx, hbase, if_neg hx]
  case modes =>
    rw [State.flushPrompts_point, hkeepsT.modes, hbase, if_pos rfl]
  case masks =>
    rw [State.flushPrompts_point, hkeepsT.masks, hbase, if_pos rfl]
  case flags =>
    have hstopA : ((s.positioned n p (upPosition u)).point p).stop.flags = (s.point p).stop.flags := by
      refine hspareA.flags.trans ?_
      rw [hbase, if_pos rfl]
    have hmodesA : ((s.positioned n p (upPosition u)).point p).stop.modes = (s.point p).stop.modes := by
      refine hspareA.modes.trans ?_
      rw [hbase, if_pos rfl]
    rw [State.flushPrompts_point, ((hspareE.trans hspareF.1).trans hspareT).flags, hflags k, hstopA, hmodesA, stopsOf_get,
      stopsOf_get]
    rfl

end Sys2Proof.Machine
end

section
/-!
Link return and link loss (O11, O12).
-/
namespace Sys2Proof.Machine

open Sys2Proof

/-! ## Passes over the groups in order -/

section Pass

variable {f : State → GroupId → State} (hother : ∀ t g x, x ≠ g → (f t g).group x = t.group x)
include hother

/-- A pass relates each group's record to the one before as each of its steps does. -/
theorem State.pass_group {Q : GroupRec → GroupRec → Prop} (hself : ∀ t g, Q (t.group g) ((f t g).group g))
    {l : List GroupId} (hl : l.Nodup) (s : State) {g : GroupId} (hg : g ∈ l) : Q (s.group g) ((l.foldl f s).group g) := by
  have hkept : ∀ (k : List GroupId) (t : State), g ∉ k → (k.foldl f t).group g = t.group g := fun k => by
    induction k with
    | nil => exact fun _ _ => rfl
    | cons x rest ih =>
      intro t hmem
      obtain ⟨hx, hrest⟩ := not_or.mp (mt List.mem_cons.mpr hmem)
      exact (ih (f t x) hrest).trans (hother t x g hx)
  induction l generalizing s with
  | nil => exact absurd hg List.not_mem_nil
  | cons x rest ih =>
    obtain ⟨hx, hrest⟩ := List.nodup_cons.mp hl
    rw [List.foldl_cons]
    rcases List.mem_cons.mp hg with rfl | hmem
    · rw [hkept rest _ hx]
      exact hself s g
    · rw [← hother s x g (ne_of_mem_of_not_mem hmem hx)]
      exact ih hrest (f s x) hmem

/-- A pass that records a notice for the groups whose record meets C records them in order. -/
theorem State.pass_notice {C : GroupRec → Bool} {k : NoticeKind} {r : Port} {P : State → Prop}
    (hstep : ∀ t g, P t → P (f t g) ∧ (f t g).notice r =
      if C (t.group g) then (t.notice r).record k (.group g) else t.notice r) {l : List GroupId} (hl : l.Nodup) {s : State}
    (hs : P s) : (l.foldl f s).notice r =
      (l.filter fun g => C (s.group g)).foldl (fun n g => n.record k (.group g)) (s.notice r) := by
  induction l generalizing s with
  | nil => rfl
  | cons x rest ih =>
    obtain ⟨hx, hrest⟩ := List.nodup_cons.mp hl
    obtain ⟨hkeeps, hnotice⟩ := hstep s x hs
    have hsame : (rest.filter fun g => C ((f s x).group g)) = rest.filter fun g => C (s.group g) :=
      List.filter_congr fun g hg => by rw [hother _ _ _ (ne_of_mem_of_not_mem hg hx)]
    rw [List.foldl_cons, ih hrest hkeeps, hsame, hnotice, List.filter_cons]
    split_ifs <;> rfl

end Pass

/-! ## Notices that are recorded one after another -/

theorem NoticeSet.record_prompt {n : NoticeSet} (h : n.prompt = true → n.records ≠ []) (k : NoticeKind) (u : Subject) :
    (n.record k u).prompt = true → (n.record k u).records ≠ [] := by
  unfold NoticeSet.record
  split_ifs
  · exact h
  · exact fun hprompt hnil => h hprompt (List.map_eq_nil_iff.mp hnil)
  · exact fun _ hnil => List.append_ne_nil_of_right_ne_nil _ (by simp) hnil
  · exact h

theorem NoticeSet.records_prompt {n : NoticeSet} (h : n.prompt = true → n.records ≠ []) (k : NoticeKind)
    (l : List GroupId) : (l.foldl (fun n g => n.record k (.group g)) n).prompt = true →
      (l.foldl (fun n g => n.record k (.group g)) n).records ≠ [] := by
  induction l generalizing n with
  | nil => exact h
  | cons g rest ih => exact ih (NoticeSet.record_prompt h k (.group g))

/-! ## Link return (R157, R80) -/

theorem State.clearOrphan_other (t : State) (q : Port) (g x : GroupId) (h : x ≠ g) :
    (t.clearOrphan q g).group x = t.group x := by
  unfold State.clearOrphan
  split_ifs
  · rw [State.notifyAll_group, State.setGroup_group, if_neg h]
  · rfl

/-- R80 for one record. -/
def GroupRec.cleared (q : Port) (r : GroupRec) : GroupRec := if r.holder = some q then { r with orphaned := false } else r

theorem State.clearOrphan_self (t : State) (q : Port) (g : GroupId) :
    (t.clearOrphan q g).group g = (t.group g).cleared q := by
  unfold State.clearOrphan GroupRec.cleared
  by_cases hholder : (t.group g).holder = some q
  · cases horphaned : (t.group g).orphaned
    · rw [if_neg (by simp), if_pos hholder, ← horphaned]
    · rw [if_pos ⟨hholder, rfl⟩, if_pos hholder, State.notifyAll_group, State.setGroup_group, if_pos rfl]
  · rw [if_neg fun h => hholder h.1, if_neg hholder]

theorem State.clearOrphan_notice (t : State) (q : Port) (g : GroupId) (r : Port) : (t.clearOrphan q g).notice r =
    if (t.group g).holder == some q && (t.group g).orphaned then (t.notice r).record .claimChanged (.group g)
    else t.notice r := by
  unfold State.clearOrphan
  simp only [Bool.and_eq_true, beq_iff_eq]
  split_ifs
  · exact State.notifyAll_notice ..
  · rfl

theorem State.clearOrphans_group (s : State) (q : Port) (g : GroupId) :
    (s.clearOrphans q).group g = (s.group g).cleared q :=
  State.pass_group (Q := fun r r' => r' = r.cleared q) (fun t g x h => t.clearOrphan_other q g x h)
    (fun t g => t.clearOrphan_self q g) allGroups_nodup s (List.mem_finRange g)

theorem State.clearOrphans_notice (s : State) (q r : Port) : (s.clearOrphans q).notice r =
    (allGroups.filter fun g => (s.group g).holder == some q && (s.group g).orphaned).foldl
      (fun n g => n.record .claimChanged (.group g)) (s.notice r) :=
  State.pass_notice (fun t g x h => t.clearOrphan_other q g x h) (P := fun _ => True)
    (C := fun r => r.holder == some q && r.orphaned) (fun t g _ => ⟨trivial, t.clearOrphan_notice q g r⟩) allGroups_nodup
      trivial

/-- R157: the marks are cleared first, then the port's own part. -/
theorem State.linkReturn_eq {s : State} {q : Port} (hroom : (s.port q).tx.length < 6) : s.linkReturn q =
    if ((s.clearOrphans q).notice q).records = [] then (s.clearOrphans q).setPort q { s.port q with link := .up }
    else ((s.clearOrphans q).setNotice q { (s.clearOrphans q).notice q with prompt := false }).setPort q
      { s.port q with link := .up, tx := (s.port q).tx ++ [attention] } := by
  have hreturn : s.linkReturn q = ((s.clearOrphans q).setPort q { s.port q with link := .up }).returnAttention q :=
    congrArg (State.returnAttention · q) ((blind_clearOrphans q).setPort s q { s.port q with link := .up })
  rw [hreturn]
  simp only [State.returnAttention, State.queueAttention, State.setPort_notice, State.setNotice_port, State.setPort_port,
    if_true, Config.txDepth, true_and, if_pos hroom]
  split_ifs
  · rfl
  · simp [State.queueTx, State.setPort_setNotice_comm]

theorem State.frameArrives_linkReturn {s : State} {q : Port} (hdown : (s.port q).link = .down)
    (hup : ((s.linkReturn q).port q).link = .up) : s.frameArrives q = (s.linkReturn q).frameArrives q := by
  have hnot : ((s.linkReturn q).port q).link ≠ .down := by
    rw [hup]
    nofun
  rw [State.frameArrives, if_pos hdown, State.frameArrives, if_neg hnot]

theorem State.linkReturn_link (s : State) (q : Port) : ((s.linkReturn q).port q).link = .up := by
  have hup : ((s.setPort q { s.port q with link := .up }).clearOrphans q).port q = { s.port q with link := .up } :=
    (State.clearOrphans_port ..).trans ((State.setPort_port ..).trans (if_pos rfl))
  change ((((s.setPort q { s.port q with link := .up }).clearOrphans q).returnAttention q).port q).link = .up
  unfold State.returnAttention State.queueAttention State.queueTx
  split_ifs
  · rw [hup]
  · rw [State.setPort_port, if_pos rfl, State.setNotice_port, hup]
  · rw [State.setNotice_port, hup]

theorem State.returnAttention_inReset (s : State) (q : Port) : (s.returnAttention q).inReset = s.inReset := by
  unfold State.returnAttention State.queueAttention
  split_ifs <;> rfl

theorem State.linkReturn_inReset (s : State) (q : Port) : (s.linkReturn q).inReset = s.inReset :=
  (State.returnAttention_inReset ..).trans
    ((blind_clearOrphans q).2 (s.setPort q { s.port q with link := .up })).runs.inReset

theorem State.clearOrphans_fields (s : State) (q : Port) :
    s.clearOrphans q = { s with groups := (s.clearOrphans q).groups, notices := (s.clearOrphans q).notices } :=
  State.fold_keeps (fun t => t = { s with groups := t.groups, notices := t.notices }) _ (fun t g h => by
    unfold State.clearOrphan
    split_ifs
    · rw [h]
      rfl
    · exact h) _ _ rfl

/-- The port's set holds nothing once its records are gone over, or its prompt was raised with a record. -/
theorem State.clearOrphans_silent {s : State} (hquiet : s.Quiet) {q : Port}
    (hnil : ((s.clearOrphans q).notice q).records = []) : ((s.clearOrphans q).notice q).prompt = false := by
  rw [State.clearOrphans_notice] at hnil ⊢
  by_contra hprompt
  exact NoticeSet.records_prompt (fun h => absurd h (ne_true_of_eq_false (hquiet q))) .claimChanged _
    (eq_true_of_ne_false hprompt) hnil

section Returned

variable {s : State} {q : Port} (hroom : (s.port q).tx.length < 6)
include hroom

theorem State.linkReturn_group (g : GroupId) : (s.linkReturn q).group g = (s.group g).cleared q := by
  rw [← State.clearOrphans_group, State.linkReturn_eq hroom]
  split_ifs
  · rw [State.setPort_group]
  · rw [State.setPort_group, State.setNotice_group]

theorem State.linkReturn_port (r : Port) : (s.linkReturn q).port r =
    if r = q then
      if ((s.clearOrphans q).notice q).records = [] then { s.port q with link := .up }
      else { s.port q with link := .up, tx := (s.port q).tx ++ [attention] }
    else s.port r := by
  rw [State.linkReturn_eq hroom]
  split_ifs with hnil hr hr
  · rw [State.setPort_port, if_pos hr]
  · rw [State.setPort_port, if_neg hr, State.clearOrphans_port]
  · rw [State.setPort_port, if_pos hr]
  · rw [State.setPort_port, if_neg hr, State.setNotice_port, State.clearOrphans_port]

theorem State.linkReturn_notice (hquiet : s.Quiet) (r : Port) : (s.linkReturn q).notice r =
    if r = q then { (s.clearOrphans q).notice q with prompt := false } else (s.clearOrphans q).notice r := by
  rw [State.linkReturn_eq hroom]
  split_ifs with hnil hr hr
  · rw [State.setPort_notice, hr, NoticeSet.unprompted (State.clearOrphans_silent hquiet hnil)]
  · rw [State.setPort_notice]
  · rw [State.setPort_notice, State.setNotice_notice, if_pos hr]
  · rw [State.setPort_notice, State.setNotice_notice, if_neg hr]

theorem State.linkReturn_fields : s.linkReturn q =
    { s with groups := (s.linkReturn q).groups, ports := (s.linkReturn q).ports, notices := (s.linkReturn q).notices } := by
  have hfields := s.clearOrphans_fields q
  rw [State.linkReturn_eq hroom]
  generalize s.clearOrphans q = u at hfields ⊢
  split_ifs <;> rw [hfields] <;> rfl

end Returned

/-- Settles O11: every request's arrival brings the link UP first; the marks are cleared in one pass over the groups. -/
theorem linkReturnPrecedesTheRequest : Obligations.LinkReturnPrecedesTheRequest := by
  unfold Obligations.LinkReturnPrecedesTheRequest
  refine ⟨fun i q s hport hrun hdown => ?_, fun q s hquiet hroom => ?_⟩
  · obtain ⟨typ, tag, payload, -, -, hexec⟩ := exec_request hport
    rw [hexec, hexec, State.request, State.request, State.event_running hrun,
      State.event_running ((s.linkReturn_inReset q).trans hrun), State.frameArrives_linkReturn hdown (s.linkReturn_link q)]
  · have hport := State.linkReturn_port hroom
    have hnotice := State.linkReturn_notice hroom hquiet
    simp only [State.clearOrphans_notice] at hport hnotice
    exact ⟨State.linkReturn_group hroom, (hport q).trans (if_pos rfl), (hnotice q).trans (if_pos rfl),
      fun r hr => ⟨(hport r).trans (if_neg hr), (hnotice r).trans (if_neg hr)⟩, State.linkReturn_fields hroom⟩

/-! ## Link loss (R158, R79) -/

/-! ### A stop reaches the holder and the cue owner only -/

theorem State.notifyOpt_notice_other {o : Option Port} {r : Port} (h : o ≠ some r) (s : State) (k : NoticeKind)
    (u : Subject) : (s.notifyOpt o k u).notice r = s.notice r := by
  cases o with
  | none => rfl
  | some q => exact (State.notify_notice ..).trans (if_neg fun hr => h (congrArg some hr.symm))

theorem State.cueFailed_notice_other {s : State} {r : Port} (h : s.cue.owner ≠ some r) (g : GroupId) (w : Stall) :
    (s.cueFailed g w).notice r = s.notice r := by
  unfold State.cueFailed
  split_ifs
  · exact State.notifyOpt_notice_other (s := s.setCue _) h ..
  · rfl

theorem State.cueFailed_owner (s : State) (g : GroupId) (w : Stall) : (s.cueFailed g w).cue.owner = s.cue.owner := by
  unfold State.cueFailed
  split_ifs
  · exact (congrArg Cue.owner (State.notifyOpt_cue ..)).trans rfl
  · rfl

theorem State.endStopping_owner (s : State) (g : GroupId) : (s.endStopping g).cue.owner = s.cue.owner := by
  unfold State.endStopping
  dsimp only
  split_ifs
  · exact (State.cueFailed_owner ..).trans (congrArg Cue.owner (State.notifyOpt_cue ..))
  · exact congrArg Cue.owner (State.notifyOpt_cue ..)
  · rfl

theorem State.endStopping_notice_other {s : State} {g : GroupId} {r : Port} (hholder : (s.group g).holder ≠ some r)
    (howner : s.cue.owner ≠ some r) : (s.endStopping g).notice r = s.notice r := by
  have htold : ∀ u : GroupRec, u.holder = (s.group g).holder →
      (((s.setGroup g u).notifyHolder g .groupStopped (.group g)).notice r) = s.notice r := fun u hu => by
    refine State.notifyOpt_notice_other (s := s.setGroup g u) ?_ ..
    rw [State.setGroup_group, if_pos rfl, hu]
    exact hholder
  unfold State.endStopping
  dsimp only
  split_ifs
  · refine (State.cueFailed_notice_other ?_ ..).trans (htold _ rfl)
    rw [State.notifyHolder, State.notifyOpt_cue]
    exact howner
  · exact htold _ rfl
  · rfl

theorem State.stopGroup_owner (s : State) (g : GroupId) (c : StopCause) : (s.stopGroup g c).cue.owner = s.cue.owner := by
  unfold State.stopGroup
  dsimp only
  split_ifs
  · exact State.endStopping_owner ..
  · rfl

theorem State.stopGroup_notice_other {s : State} {g : GroupId} {r : Port} (hholder : (s.group g).holder ≠ some r)
    (howner : s.cue.owner ≠ some r) (c : StopCause) : (s.stopGroup g c).notice r = s.notice r := by
  by_cases hmoving : (s.group g).state = .moving
  · rw [State.stopGroup_of_moving hmoving]
    exact State.endStopping_notice_other (s := s.setGroup g ((s.group g).stopped c))
      (by rw [State.setGroup_group, if_pos rfl]; exact hholder) howner
  · rw [State.stopGroup_of_not_moving hmoving]

/-! ### The groups of the lost port -/

/-- What the loss makes of a group's record: orphaned, at rest where it was, and another port's group as it was. -/
structure GroupRec.OrphanedTo (q : Port) (r r' : GroupRec) : Prop where
  held : r.holder = some q → r'.holder = some q ∧ r'.orphaned = true ∧ r'.state ≠ .moving ∧
    (r.state ≠ .moving → r' = { r with orphaned := true })
  other : r.holder ≠ some q → r' = r

theorem State.markOrphan_group (s : State) (g : GroupId) : (s.markOrphan g).group g = { s.group g with orphaned := true } := by
  unfold State.markOrphan
  split_ifs with h
  · rw [← h]
  · rw [State.notifyAll_group, State.setGroup_group, if_pos rfl]

theorem State.markOrphan_owner (s : State) (g : GroupId) : (s.markOrphan g).cue.owner = s.cue.owner := by
  unfold State.markOrphan
  split_ifs <;> rfl

theorem State.markOrphan_notice (s : State) (g : GroupId) (r : Port) : (s.markOrphan g).notice r =
    if !(s.group g).orphaned then (s.notice r).record .orphaned (.group g) else s.notice r := by
  unfold State.markOrphan
  cases (s.group g).orphaned
  · exact State.notifyAll_notice ..
  · rfl

theorem State.stopGroup_orphaned (s : State) (g : GroupId) (c : StopCause) :
    ((s.stopGroup g c).group g).orphaned = (s.group g).orphaned := by
  rw [State.stopGroup_group, State.stopOutcome]
  split_ifs <;> rfl

theorem State.orphan_group (t : State) (q : Port) (g : GroupId) :
    (t.group g).OrphanedTo q ((t.orphan q g).group g) := by
  rw [State.orphan_eq]
  split_ifs with hholder
  · have hmark := t.markOrphan_group g
    refine ⟨fun _ => ⟨?_, ?_, State.stopGroup_not_moving _ g .link, fun hrest => ?_⟩, fun h => absurd hholder h⟩
    · rw [State.stopGroup_holder, hmark]
      exact hholder
    · rw [State.stopGroup_orphaned, hmark]
    · rw [State.stopGroup_of_not_moving (by rw [hmark]; exact hrest), hmark]
  · exact ⟨fun h => absurd h hholder, fun _ => rfl⟩

/-- No port but q and the cue owner hears of the stops, or there is nothing to stop. -/
def State.DeafToStops (s : State) (q r : Port) : Prop :=
  (∀ g, (s.group g).holder = some q → (s.group g).state ≠ .moving) ∨ (r ≠ q ∧ s.cue.owner ≠ some r)

theorem State.orphan_notice {t : State} {q r : Port} (h : t.DeafToStops q r) (g : GroupId) :
    (t.orphan q g).DeafToStops q r ∧ (t.orphan q g).notice r =
      if (t.group g).holder == some q && !(t.group g).orphaned then (t.notice r).record .orphaned (.group g)
      else t.notice r := by
  rw [State.orphan_eq]
  by_cases hholder : (t.group g).holder = some q
  · have hmark := t.markOrphan_group g
    have hown := t.markOrphan_owner g
    have hnotice : (if (t.group g).holder == some q && !(t.group g).orphaned then
        (t.notice r).record .orphaned (.group g) else t.notice r) = (t.markOrphan g).notice r := by
      rw [State.markOrphan_notice, beq_iff_eq.mpr hholder, Bool.true_and]
    rw [if_pos hholder, hnotice]
    rcases h with hrest | ⟨hne, howner⟩
    · have hstop : (t.markOrphan g).stopGroup g .link = t.markOrphan g :=
        State.stopGroup_of_not_moving (by rw [hmark]; exact hrest g hholder) .link
      have horphan : t.orphan q g = t.markOrphan g := by rw [State.orphan_eq, if_pos hholder, hstop]
      rw [hstop]
      refine ⟨.inl fun x hx => ?_, rfl⟩
      by_cases hxg : x = g
      · rw [hxg, hmark]
        exact hrest g hholder
      · rw [← horphan, State.orphan_other t q hxg] at hx ⊢
        exact hrest x hx
    · refine ⟨.inr ⟨hne, ?_⟩, State.stopGroup_notice_other ?_ (by rwa [hown]) .link⟩
      · rwa [State.stopGroup_owner, hown]
      · rw [hmark]
        exact fun heq => hne (Option.some.inj (heq.symm.trans hholder))
  · rw [if_neg hholder, if_neg (by simp [hholder])]
    exact ⟨h, rfl⟩

theorem State.orphanAll_group (s : State) (q : Port) (g : GroupId) :
    (s.group g).OrphanedTo q ((s.orphanAll q).group g) :=
  State.pass_group (fun t _ _ h => t.orphan_other q h) (fun t g => t.orphan_group q g) allGroups_nodup s
    (List.mem_finRange g)

theorem State.orphanAll_notice {s : State} {q r : Port} (h : s.DeafToStops q r) : (s.orphanAll q).notice r =
    (allGroups.filter fun g => (s.group g).holder == some q && !(s.group g).orphaned).foldl
      (fun n g => n.record .orphaned (.group g)) (s.notice r) :=
  State.pass_notice (fun t _ _ hx => t.orphan_other q hx) (P := fun t => t.DeafToStops q r)
    (C := fun r => r.holder == some q && !r.orphaned) (fun _ g ht => State.orphan_notice ht g) allGroups_nodup h

/-! ### The enable that goes with the link -/

theorem State.loseEnable_group (s : State) (q : Port) (g : GroupId) :
    ((s.loseEnable q).group g).holder = (s.group g).holder ∧
      ((s.group g).holder ≠ some q ∨ (s.group g).state ≠ .moving → (s.loseEnable q).group g = s.group g) := by
  unfold State.loseEnable
  split_ifs
  · rw [State.stopHeld_group, State.stopOutcome]
    split_ifs with hholder hmoving hstill
    · exact ⟨rfl, fun h => (h.elim (fun hne => hne hholder) fun hne => hne hmoving).elim⟩
    · exact ⟨rfl, fun h => (h.elim (fun hne => hne hholder) fun hne => hne hmoving).elim⟩
    · exact ⟨rfl, fun _ => rfl⟩
    · exact ⟨rfl, fun _ => rfl⟩
  · exact ⟨rfl, fun _ => rfl⟩

theorem State.loseEnable_orphaned (s : State) (q : Port) (g : GroupId) :
    ((s.loseEnable q).group g).orphaned = (s.group g).orphaned := by
  unfold State.loseEnable
  split_ifs
  · rw [State.stopHeld_group, State.stopOutcome]
    split_ifs <;> rfl
  · rfl

theorem State.stopHeld_keeps {P : State → Prop} {q : Port} {c : StopCause}
    (h : ∀ t g, P t → (t.group g).holder = some q → P (t.stopGroup g c)) {s : State} (hs : P s) : P (s.stopHeld q c) :=
  State.fold_keeps P (fun t g => if (t.group g).holder = some q then t.stopGroup g c else t) (fun t g ht => by
    split_ifs with hholder
    · exact h t g ht hholder
    · exact ht) allGroups s hs

theorem State.loseEnable_deaf {s : State} {q r : Port} (h : s.DeafToStops q r) :
    (s.loseEnable q).DeafToStops q r ∧ (s.loseEnable q).notice r = s.notice r := by
  unfold State.loseEnable
  split_ifs
  · rcases h with hrest | ⟨hne, howner⟩
    · have hnone : (allGroups.filter fun g => (s.group g).holder == some q && (s.group g).state == .moving) = [] := by
        simpa [List.filter_eq_nil_iff] using fun g _ => hrest g
      rw [State.stopHeld_eq_moving, hnone]
      exact ⟨.inl hrest, rfl⟩
    · have hkept : (s.stopHeld q .enable).notice r = s.notice r ∧ (s.stopHeld q .enable).cue.owner = s.cue.owner := by
        refine State.stopHeld_keeps (P := fun t => t.notice r = s.notice r ∧ t.cue.owner = s.cue.owner)
          (fun t g ht hholder => ?_) ⟨rfl, rfl⟩
        obtain ⟨hnotice, hown⟩ := ht
        refine ⟨(State.stopGroup_notice_other (fun heq => ?_) (by rwa [hown]) _).trans hnotice,
          (State.stopGroup_owner ..).trans hown⟩
        exact hne (Option.some.inj (heq.symm.trans hholder))
      exact ⟨.inr ⟨hne, by rwa [hkept.2]⟩, hkept.1⟩
  · exact ⟨h, rfl⟩

theorem State.stopHeld_owner (s : State) (q : Port) (c : StopCause) : (s.stopHeld q c).cue.owner = s.cue.owner :=
  State.stopHeld_keeps (P := fun t => t.cue.owner = s.cue.owner)
    (fun _ _ ht _ => (State.stopGroup_owner ..).trans ht) rfl

theorem State.orphan_owner (s : State) (q : Port) (g : GroupId) : (s.orphan q g).cue.owner = s.cue.owner := by
  rw [State.orphan_eq]
  split_ifs
  · rw [State.stopGroup_owner, State.markOrphan_owner]
  · rfl

theorem State.orphanAll_owner (s : State) (q : Port) : (s.orphanAll q).cue.owner = s.cue.owner := by
  unfold State.orphanAll
  generalize allGroups = l
  exact State.fold_keeps (fun t => t.cue.owner = s.cue.owner) (fun t g => t.orphan q g)
    (fun t g ht => (t.orphan_owner q g).trans ht) l s rfl

/-- The groups' part of a link loss. -/
def State.groupsLost (s : State) (q : Port) : State := (s.loseEnable q).orphanAll q

theorem State.groupsLost_moves (s : State) (q : Port) : s.MovesTo (s.groupsLost q) :=
  (s.loseEnable_moves q).trans ((blind_orphanAll q).2 _)

theorem State.groupsLost_owner (s : State) (q : Port) : (s.groupsLost q).cue.owner = s.cue.owner := by
  rw [State.groupsLost, State.orphanAll_owner]
  unfold State.loseEnable
  split_ifs
  · exact s.stopHeld_owner q .enable
  · rfl

theorem State.groupsLost_group (s : State) (q : Port) (g : GroupId) :
    (s.group g).OrphanedTo q ((s.groupsLost q).group g) := by
  obtain ⟨hholder, hsame⟩ := s.loseEnable_group q g
  obtain ⟨hheld, hother⟩ := (s.loseEnable q).orphanAll_group q g
  refine ⟨fun h => ?_, fun h => ?_⟩
  · obtain ⟨hkept, horphaned, hrest, hself⟩ := hheld (hholder.trans h)
    refine ⟨hkept, horphaned, hrest, fun hst => ?_⟩
    rw [hsame (.inr hst)] at hself
    exact hself hst
  · rw [hsame (.inl h)] at hother
    exact hother h

theorem State.groupsLost_notice {s : State} {q r : Port} (h : s.DeafToStops q r) : (s.groupsLost q).notice r =
    (allGroups.filter fun g => (s.group g).holder == some q && !(s.group g).orphaned).foldl
      (fun n g => n.record .orphaned (.group g)) (s.notice r) := by
  obtain ⟨hdeaf, hnotice⟩ := State.loseEnable_deaf h
  have hfilter : ∀ g, (((s.loseEnable q).group g).holder == some q && !((s.loseEnable q).group g).orphaned) =
      ((s.group g).holder == some q && !(s.group g).orphaned) := fun g => by
    rw [(s.loseEnable_group q g).1, s.loseEnable_orphaned q g]
  rw [State.groupsLost, State.orphanAll_notice hdeaf, hnotice, List.filter_congr fun g _ => hfilter g]

theorem State.dropPortEntries_port (s : State) (q r : Port) : (s.dropPortEntries q).port r = s.port r := rfl

theorem State.dropPortEntries_group (s : State) (q : Port) (g : GroupId) : (s.dropPortEntries q).group g = s.group g := rfl

theorem State.dropPortEntries_notice (s : State) (q r : Port) : (s.dropPortEntries q).notice r = s.notice r := rfl

theorem exec_linkTimerExpiry {s : State} (hrun : s.inReset = false) {q : Port} {d : Nat}
    (htimer : (s.port q).linkTimer = some d) (hdue : d ≤ s.now) :
    exec (.linkTimerExpiry q) s = .next (s.linkLoss q).flushPrompts := by
  have hexpires : s.due (s.port q).linkTimer = true := by
    rw [htimer]
    exact decide_eq_true hdue
  exact congrArg Host.Outcome.next ((State.event_running hrun _).trans (congrArg State.flushPrompts (if_pos hexpires)))

/-- Settles O12: the groups' part in one pass, then the port's own part and its entries. -/
theorem linkLossTearsDownThePort : Obligations.LinkLossTearsDownThePort := by
  unfold Obligations.LinkLossTearsDownThePort
  intro s q d hrun hquiet htimer hdue
  have hmoves := s.groupsLost_moves q
  have howner := s.groupsLost_owner q
  have hgroup := s.groupsLost_group q
  have hnotice : ∀ r, s.DeafToStops q r → _ := fun r h => State.groupsLost_notice h
  have hloss : s.linkLoss q = ((s.groupsLost q).setPort q (s.port q).lost).dropPortEntries q := s.linkLoss_eq q
  generalize s.groupsLost q = u at hmoves howner hgroup hnotice hloss
  have hports : ∀ r, (s.linkLoss q).port r = if r = q then (s.port q).lost else s.port r := fun r => by
    have hkept : u.port r = s.port r := congrArg (PerPort.get · r) hmoves.runs.ports
    rw [hloss, State.dropPortEntries_port, State.setPort_port, hkept]
  have hgroups : ∀ g, (s.linkLoss q).flushPrompts.group g = u.group g := fun g => by
    rw [State.flushPrompts_group, hloss, State.dropPortEntries_group, State.setPort_group]
  have hnotices : ∀ r, (s.linkLoss q).notice r = u.notice r := fun r => by
    rw [hloss, State.dropPortEntries_notice, State.setPort_notice]
  refine ⟨(s.linkLoss q).flushPrompts, exec_linkTimerExpiry hrun htimer hdue, ?_, fun r hr => ?_, fun g hg => ?_,
    fun g hg => ?_, fun r hdeaf => ?_, ?service, ?owner, ?stopUnit, ?points, ?slots, ?bus, ?warn, ?now, ?inReset⟩
  · rw [State.flushPrompts_port, hports, if_pos rfl]
    exact if_neg fun h => nomatch h.2.1
  · rw [State.flushPrompts_port, hports, if_neg hr]
    split_ifs
    · exact .inr rfl
    · exact .inl rfl
  · rw [hgroups]
    exact (hgroup g).held hg
  · rw [hgroups]
    exact (hgroup g).other hg
  · rw [State.flushPrompts_notice, hnotices, hnotice r hdeaf]
  case service =>
    rw [State.flushPrompts_service, hloss]
    change Service.mk _ _ _ = _
    rw [State.setPort_service, hmoves.runs.service]
  case owner =>
    rw [State.flushPrompts_cue, hloss]
    exact howner
  case stopUnit =>
    rw [State.flushPrompts_stopUnit, hloss]
    exact hmoves.stopUnit
  case points =>
    rw [State.flushPrompts_points, hloss]
    exact hmoves.points
  case slots =>
    rw [State.flushPrompts_slots, hloss]
    exact hmoves.runs.slots
  case bus =>
    rw [State.flushPrompts_bus, hloss]
    exact hmoves.runs.bus
  case warn =>
    rw [State.flushPrompts_warn, hloss]
    exact hmoves.runs.warn
  case now =>
    rw [State.flushPrompts_now, hloss]
    exact hmoves.runs.now
  case inReset =>
    rw [State.flushPrompts_inReset, hloss]
    exact hmoves.runs.inReset

end Sys2Proof.Machine
end

section
/-!
Moves that start (O38).
-/
namespace Sys2Proof.Machine

open Sys2Proof

/-! ## A START that passes (R92, R93) -/

theorem Load.kilograms_eq (l : Load) : l.kilograms = match l with
    | .kg v => some v
    | _ => none := by
  cases l <;> rfl

theorem State.begin_target (s : State) (g : GroupId) (d : Dir) (o : MoveOrigin) (a : Int) :
    s.begin g .target d o (some a) = s.started g .target o d a := by
  have hmember : s.startMember (some a) = fun m => ({
      point := m.point, state := .run, startPos := s.pos m.point, target := (s.pos m.point).map (· + a)
      baseline := match (s.point m.point).load.value with
        | .kg v => some v
        | _ => none
      releasePos := none, releasedMoving := false, runTimer := some (s.now + 400), settle := 0 } : Member) := by
    funext m
    rw [State.startMember, Load.kilograms_eq]
    rfl
  rw [State.begin, hmember]
  rfl

theorem State.begin_jog (s : State) (g : GroupId) (d : Dir) (o : MoveOrigin) :
    s.begin g .jog d o none = s.started g .jog o d 0 := by
  have hmember : s.startMember none = fun m => ({
      point := m.point, state := .run, startPos := s.pos m.point, target := none
      baseline := match (s.point m.point).load.value with
        | .kg v => some v
        | _ => none
      releasePos := none, releasedMoving := false, runTimer := some (s.now + 400), settle := 0 } : Member) := by
    funext m
    rw [State.startMember, Load.kilograms_eq]
    rfl
  rw [State.begin, hmember]
  rfl

theorem dirOf_eq_none {d : Int} (h : dirOf d = none) : d = 0 := by
  rcases lt_trichotomy d 0 with hneg | hzero | hpos
  · cases (dirOf_of_neg hneg).symm.trans h
  · exact hzero
  · cases (dirOf_of_pos hpos).symm.trans h

theorem State.clampTravel_zero (s : State) (g : GroupId) : s.clampTravel g 0 = 0 := by
  have hnear : (if dirOf (s.nearTravel g 0) = dirOf 0 then s.nearTravel g 0 else 0) = 0 := by
    split_ifs with h
    · exact dirOf_eq_none h
    · rfl
  change (if _ then (if dirOf (s.nearTravel g 0) = dirOf 0 then s.nearTravel g 0 else 0) else 0) = 0
  rw [hnear, ite_self]

/-- R92: the state of a START whose travel is limited to E. -/
def State.clamped (s : State) (q : Port) (g : GroupId) (D E : Int) : State :=
  if E = D then s else s.notify q .targetClamped (.group g)

section Reply

variable {s : State} {q : Port} {g : GroupId}

theorem State.startReply_refused {m : Move} {r : Reject} (h : s.startCheck (some q) g m = some r) :
    s.startReply q g m = s.deny r := by
  have hstart : s.start (some q) .console g m = (s, .refused r) := by
    unfold State.start
    rw [h]
  unfold State.startReply
  rw [hstart]
  rfl

variable (hholder : (s.group g).holder = some q)
include hholder

theorem State.clamped_holder (D E : Int) : ((s.clamped q g D E).group g).holder = some q := by
  unfold State.clamped
  split_ifs
  · exact hholder
  · exact hholder

theorem State.notifyHolder_of_held (k : NoticeKind) (u : Subject) : s.notifyHolder g k u = s.notify q k u := by
  rw [State.notifyHolder, hholder]
  rfl

theorem State.start_target {m : Move} (hm : ∀ d, m ≠ .jog d) (hcheck : s.startCheck (some q) g m = none)
    (o : MoveOrigin) {E : Int} (hE : s.clampTravel g (s.travel g m) = E) :
    (∀ e, dirOf E = some e → s.start (some q) o g m =
      ((s.clamped q g (s.travel g m) E).started g .target o e E, .moving)) ∧
    (dirOf E = none → s.start (some q) o g m =
      ((s.clamped q g (s.travel g m) E).notify q .groupDone (.group g), .atOnce)) := by
  have hclamped : (if E = s.travel g m then s else s.notifyHolder g .targetClamped (.group g)) =
      s.clamped q g (s.travel g m) E := by rw [State.notifyHolder_of_held hholder]; rfl
  have hdone := State.notifyHolder_of_held (State.clamped_holder hholder (s.travel g m) E) .groupDone (.group g)
  refine ⟨fun e he => ?_, fun hnone => ?_⟩
  · cases m with
    | jog d => exact absurd rfl (hm d)
    | _ => simp only [State.start, hcheck, hE, hclamped, he, State.begin_target]
  · cases m with
    | jog d => exact absurd rfl (hm d)
    | _ => simp only [State.start, hcheck, hE, hclamped, hnone, hdone]

/-- R92: a TARGET move that passes every check, as a port is answered. -/
theorem State.startReply_target {m : Move} (hm : ∀ d, m ≠ .jog d) (hcheck : s.startCheck (some q) g m = none)
    {E : Int} (hE : s.clampTravel g (s.travel g m) = E) : s.startReply q g m =
      if E = 0 then
        ((s.clamped q g (s.travel g m) E).notify q .groupDone (.group g), .ok (int3 0 ++ [(s.group g).dir.code]))
      else if 0 < E then
        ((s.clamped q g (s.travel g m) E).started g .target .console .up E, .ok (int3 E ++ [0x01]))
      else ((s.clamped q g (s.travel g m) E).started g .target .console .down E, .ok (int3 E ++ [0xFF])) := by
  obtain ⟨hgoes, hends⟩ := State.start_target hholder hm hcheck .console hE
  have hgroup : ((s.clamped q g (s.travel g m) E).group g).dir = (s.group g).dir := by
    unfold State.clamped
    split_ifs <;> rfl
  have hstarted : ∀ (t : State) (d : Dir), ((t.started g .target .console d E).group g).applied = E ∧
      ((t.started g .target .console d E).group g).dir = d := fun t d => by
    rw [State.started, State.setGroup_group, if_pos rfl]
    exact ⟨rfl, rfl⟩
  split_ifs with hzero hup
  · simp only [State.startReply, hends (by rw [hzero]; rfl), State.notify_group, hgroup]
  · simp only [State.startReply, hgoes .up (dirOf_of_pos hup), (hstarted _ .up).1, (hstarted _ .up).2]
    rfl
  · simp only [State.startReply, hgoes .down (dirOf_of_neg (by omega)), (hstarted _ .down).1, (hstarted _ .down).2]
    rfl

/-- R94: a JOG that passes every check goes off, or a member stands at its limit already. -/
theorem State.startReply_jog {d : Dir} (hcheck : s.startCheck (some q) g (.jog d) = none) :
    (∀ p, ((s.group g).members.map Member.point).find? (s.atLimit d) = some p → s.startReply q g (.jog d) =
      (s.notify q .limitReached (.point p), .ok (int3 0 ++ [(s.group g).dir.code]))) ∧
    (((s.group g).members.map Member.point).find? (s.atLimit d) = none → s.startReply q g (.jog d) =
      (s.started g .jog .console d 0, .ok (int3 0 ++ [d.code]))) := by
  have hstarted : ((s.started g .jog .console d 0).group g).applied = 0 ∧
      ((s.started g .jog .console d 0).group g).dir = d := by
    rw [State.started, State.setGroup_group, if_pos rfl]
    exact ⟨rfl, rfl⟩
  refine ⟨fun p hp => ?_, fun hnone => ?_⟩
  · simp only [State.startReply, State.start, hcheck, hp, State.notifyHolder_of_held hholder, State.notify_group]
  · simp only [State.startReply, State.start, hcheck, hnone, State.begin_jog, hstarted.1, hstarted.2]

end Reply

/-! ## After an arrival -/

theorem State.touched_startCheck (s : State) (q : Port) (r : Option Port) (g : GroupId) (m : Move) :
    (s.touched q).startCheck r g m = s.startCheck r g m := by
  have henabled : (s.touched q).enabled r = s.enabled r := by
    cases r with
    | none => rfl
    | some x =>
      change ((s.touched q).port x).enable = (s.port x).enable
      rw [State.touched, State.setPort_port]
      split_ifs with hx
      · rw [hx]
      · rfl
  unfold State.startCheck State.startGate
  rw [henabled]
  rfl

theorem State.touched_clamped (s : State) (q r : Port) (g : GroupId) (D E : Int) :
    (s.touched q).clamped r g D E = (s.clamped r g D E).touched q := by
  unfold State.clamped
  split_ifs <;> rfl

theorem State.touched_started (s : State) (q : Port) (g : GroupId) (k : MoveKind) (o : MoveOrigin) (d : Dir) (a : Int) :
    (s.touched q).started g k o d a = (s.started g k o d a).touched q := rfl

/-! ## The requests -/

section Requests

variable {s : State} {q : Port} (htakes : s.Takes q) {g : GroupId} {m : Move} {body : State → Answer}
  (hbody : body (s.touched q) = (s.touched q).startReply q g m)
include htakes hbody

theorem State.request_refused {r : Reject} (h : s.startCheck (some q) g m = some r) (typ tag : Byte) :
    s.request q typ tag body = s.answered q (typ ||| 0x80) tag r.bytes :=
  State.request_denies htakes typ tag _ r (hbody.trans (State.startReply_refused ((s.touched_startCheck ..).trans h)))

/-- R92, R93: a TARGET move of distance D that passes every check. -/
theorem State.request_target (hm : ∀ d, m ≠ .jog d) (hstart : s.Startable q g (s.startDir g m)) (typ tag : Byte) {D : Int}
    (hD : s.travel g m = D) :
    let E := if D = 0 then 0 else s.clampTravel g D
    let u := s.clamped q g D E
    s.request q typ tag body =
      if E = 0 then ((u.notify q .groupDone (.group g)).answered q (typ ||| 0x80) tag
        (0 :: int3 0 ++ [(s.group g).dir.code])).flushPrompts
      else if 0 < E then
        ((u.started g .target .console .up E).answered q (typ ||| 0x80) tag (0 :: int3 E ++ [0x01])).flushPrompts
      else ((u.started g .target .console .down E).answered q (typ ||| 0x80) tag (0 :: int3 E ++ [0xFF])).flushPrompts := by
  have hcheck : (s.touched q).startCheck (some q) g m = none :=
    (s.touched_startCheck ..).trans ((s.startCheck_eq_none_iff q g m).mpr hstart)
  have hE : (if D = 0 then 0 else s.clampTravel g D) = s.clampTravel g D := by
    split_ifs with hzero
    · rw [hzero, State.clampTravel_zero]
    · rfl
  dsimp only
  rw [hE]
  have hreply := hbody.trans (State.startReply_target (s := s.touched q) hstart.gate.holder hm hcheck
    (E := s.clampTravel g D) (by rw [← hD]; rfl))
  have htravel : (s.touched q).travel g m = D := hD
  rw [htravel, State.touched_clamped, State.touched_notify, State.touched_started, State.touched_started,
    State.touched_group] at hreply
  split_ifs at hreply ⊢ with hzero hup
  · exact (State.request_effect htakes typ tag _ _ _ hreply).trans rfl
  · exact (State.request_effect htakes typ tag _ _ _ hreply).trans rfl
  · exact (State.request_effect htakes typ tag _ _ _ hreply).trans rfl

/-- R94: a JOG that passes every check. -/
theorem State.request_jog {d : Dir} (hjog : m = .jog d) (hstart : s.Startable q g (some d)) (typ tag : Byte) :
    (∀ p, ((s.group g).members.map Member.point).find? (s.atLimit d) = some p → s.request q typ tag body =
      ((s.notify q .limitReached (.point p)).answered q (typ ||| 0x80) tag
        (0 :: int3 0 ++ [(s.group g).dir.code])).flushPrompts) ∧
    (((s.group g).members.map Member.point).find? (s.atLimit d) = none → s.request q typ tag body =
      (s.started g .jog .console d 0).answered q (typ ||| 0x80) tag (0 :: int3 0 ++ [d.code])) := by
  subst hjog
  have hcheck : (s.touched q).startCheck (some q) g (.jog d) = none :=
    (s.touched_startCheck ..).trans ((s.startCheck_eq_none_iff q g (.jog d)).mpr hstart)
  obtain ⟨hlimit, hgoes⟩ := State.startReply_jog (s := s.touched q) hstart.gate.holder hcheck
  rw [State.touched_started] at hgoes
  simp only [State.touched_notify, State.touched_group] at hlimit
  have hquiet : (s.started g .jog .console d 0).Quiet := htakes.quiet
  exact ⟨fun p hp => (State.request_effect htakes typ tag _ _ _ (hbody.trans (hlimit p hp))).trans rfl,
    fun hnone => (State.request_calm htakes typ tag _ _ _ hquiet (hbody.trans (hgoes hnone))).trans rfl⟩

end Requests

theorem reqMoveBy_eq {b : Byte} {g : GroupId} (hg : groupOf b = some g) {x : Word24} (hlow : -67535 ≤ x.toInt)
    (hhigh : x.toInt ≤ 67535) (q : Port) (s : State) : reqMoveBy q b x s = s.startReply q g (.dist x.toInt) := by
  simp only [reqMoveBy, hg]
  exact if_pos ⟨hlow, hhigh⟩

theorem reqMoveTo_eq {b : Byte} {g : GroupId} (hg : groupOf b = some g) {x : Word24} (hlow : -1000 ≤ x.toInt)
    (hhigh : x.toInt ≤ 66535) (q : Port) (s : State) : reqMoveTo q b x s = s.startReply q g (.height x.toInt) := by
  simp only [reqMoveTo, hg]
  exact if_pos ⟨hlow, hhigh⟩

theorem reqMoveBy_outOfRange {b : Byte} {x : Word24} (h : groupOf b = none ∨ x.toInt < -67535 ∨ 67535 < x.toInt)
    (q : Port) (s : State) : reqMoveBy q b x s = s.deny .badArgument := by
  unfold reqMoveBy
  split
  · rfl
  next hg => exact if_neg fun hin => h.elim (fun hnone => nomatch hnone.symm.trans hg) (by omega)

theorem reqMoveTo_outOfRange {b : Byte} {x : Word24} (h : groupOf b = none ∨ x.toInt < -1000 ∨ 66535 < x.toInt)
    (q : Port) (s : State) : reqMoveTo q b x s = s.deny .badArgument := by
  unfold reqMoveTo
  split
  · rfl
  next hg => exact if_neg fun hin => h.elim (fun hnone => nomatch hnone.symm.trans hg) (by omega)

theorem reqJog_outOfRange {b x : Byte} (h : groupOf b = none ∨ 2 ≤ x.toNat) (q : Port) (s : State) :
    reqJog q b x s = s.deny .badArgument := by
  unfold reqJog
  split
  next hg hd =>
    rcases h with hnone | hhigh
    · cases hnone.symm.trans hg
    · unfold jogDirOf at hd
      split at hd
      · omega
      · omega
      · cases hd
  · rfl

theorem reqJog_eq {b x : Byte} {g : GroupId} {d : Dir} (hg : groupOf b = some g) (hd : jogDirOf x = some d) (q : Port)
    (s : State) : reqJog q b x s = s.startReply q g (.jog d) := by
  simp only [reqJog, hg, hd]

/-- R94: the member stands at or beyond its soft limit. -/
theorem State.atLimit_iff (s : State) (d : Dir) (p : PointId) : s.atLimit d p = true ↔ ∃ y, s.pos p = some y ∧
    (d = .up ∧ (s.point p).softMax ≤ y ∨ d = .down ∧ y ≤ (s.point p).softMin) := by
  unfold State.atLimit
  cases s.pos p with
  | none => cases d <;> simp
  | some y => cases d <;> simp

/-- Settles O38: each request by its range, the check, and the limited travel or the members' limits. -/
theorem movesStart : Obligations.MovesStart := by
  unfold Obligations.MovesStart
  refine ⟨⟨rfl, rfl, rfl, rfl, rfl, rfl, rfl, fun p => ⟨rfl, rfl, rfl, rfl, rfl, rfl, rfl⟩⟩,
    fun s q tag b x htakes => ⟨fun h => ?_, fun h => ?_, fun g hg => ⟨fun hlow hhigh => ⟨fun e he => ?_, fun hstart => ?_⟩,
      fun hlow hhigh => ⟨fun e he => ?_, fun m rest lead hmembers hlead hstart => ?_⟩⟩⟩,
    fun s q tag b x htakes => ⟨fun h => ?_, fun g d hg hd => ⟨fun e he => ?_, fun hstart => ⟨fun hnone => ?_,
      fun pre m post hmembers hpre hm => ?_⟩⟩⟩⟩
  · exact congrArg Host.Outcome.next (State.request_denies htakes 0x41 tag _ .badArgument (reqMoveBy_outOfRange h q _))
  · exact congrArg Host.Outcome.next (State.request_denies htakes 0x40 tag _ .badArgument (reqMoveTo_outOfRange h q _))
  · exact congrArg Host.Outcome.next (State.request_refused htakes (reqMoveBy_eq hg hlow hhigh q _) he 0x41 tag)
  · have hby := State.request_target htakes (reqMoveBy_eq hg hlow hhigh q _) nofun hstart 0x41 tag (D := x.toInt) rfl
    exact congrArg Host.Outcome.next hby
  · exact congrArg Host.Outcome.next (State.request_refused htakes (reqMoveTo_eq hg hlow hhigh q _) he 0x40 tag)
  · have hleads : s.leadPos g = lead := by
      simp only [State.leadPos, hmembers, hlead, Option.getD_some]
    have hdir : s.startDir g (.height x.toInt) = dirOf (x.toInt - lead) := by rw [← hleads]; rfl
    have hto := State.request_target htakes (reqMoveTo_eq hg hlow hhigh q _) nofun (hdir ▸ hstart) 0x40 tag
      (D := x.toInt - lead) (by rw [← hleads]; rfl)
    exact congrArg Host.Outcome.next hto
  · exact congrArg Host.Outcome.next (State.request_denies htakes 0x42 tag _ .badArgument (reqJog_outOfRange h q _))
  · exact congrArg Host.Outcome.next (State.request_refused htakes (reqJog_eq hg hd q _) he 0x42 tag)
  · refine congrArg Host.Outcome.next ((State.request_jog htakes (reqJog_eq hg hd q _) rfl hstart 0x42 tag).2 ?_)
    exact List.find?_eq_none.mpr (List.forall_mem_map.mpr fun m hm hlimit => hnone m hm ((s.atLimit_iff d _).mp hlimit))
  · refine congrArg Host.Outcome.next ((State.request_jog htakes (reqJog_eq hg hd q _) rfl hstart 0x42 tag).1 m.point ?_)
    rw [hmembers, List.map_append, List.find?_append, List.find?_eq_none.mpr (List.forall_mem_map.mpr fun k hk hlimit =>
      hpre k hk ((s.atLimit_iff d _).mp hlimit)), Option.none_or, List.map_cons,
      List.find?_cons_of_pos ((s.atLimit_iff d _).mpr hm)]

end Sys2Proof.Machine
end

section
/-!
Supervision of a moving group, and its members' arrivals (O41, O43).
-/
namespace Sys2Proof.Machine

open Sys2Proof

/-! ## A group's member (R106, R108, R109) -/

/-- The record of one member of a group is updated. -/
def State.updMember (s : State) (g : GroupId) (p : PointId) (f : Member → Member) : State :=
  s.setGroup g ((s.group g).updMember p f)

theorem exec_runTimerExpiry {s : State} (hrun : s.inReset = false) (p : PointId) :
    exec (.runTimerExpiry p) s = .next (s.runTimerExpiry p).flushPrompts :=
  congrArg Host.Outcome.next (State.event_running hrun _)

/-- R106: the share check fails outside the band around the baseline. -/
theorem shareFails_iff (v b : Int) (q : Nat) :
    shareFails (.kg v) (some b) q = true ↔ max 20 (|b| * (q : Int) / 100) < |v - b| := by
  have hband : ((shareBand b q : Nat) : Int) = max 20 (|b| * (q : Int) / 100) := by
    rw [shareBand, Int.abs_eq_natAbs]
    push_cast
    rfl
  have hoff : ((v - b).natAbs : Int) = |v - b| := (Int.abs_eq_natAbs _).symm
  rw [← hband, ← hoff, Nat.cast_lt]
  exact decide_eq_true_iff

theorem MemberState.supervised_iff (a : MemberState) : a.supervised = true ↔ a = .run ∨ a = .pause ∨ a = .coast := by
  cases a <;> simp [MemberState.supervised]

section Member

variable {s : State} {p : PointId} {g : GroupId} {m : Member} (hg : (s.point p).group = some g)
  (hm : (s.group g).member p = some m)
include hg hm

theorem State.runTimerExpiry_due (hdue : s.due m.runTimer = true) : s.runTimerExpiry p =
    if s.sense p = some (s.group g).dir.sense then s.updMember g p fun x => { x with runTimer := none }
    else (s.updMember g p fun x => { x with runTimer := none }).faultGroup g .noMotion (some p) := by
  simp only [State.runTimerExpiry, hg, hm]
  exact if_pos hdue

theorem State.shareArrival_idle (h : ¬ ((s.group g).state = .moving ∧ m.state.supervised)) : s.shareArrival p = s := by
  simp only [State.shareArrival, hg, hm]
  exact if_neg h

theorem State.shareArrival_eq (h : (s.group g).state = .moving ∧ m.state.supervised) : s.shareArrival p =
    if min (m.settle + 1) 4 = 4 ∧ shareFails (s.point p).load.value m.baseline (s.group g).bands.share then
      (s.updMember g p fun x => { x with settle := min (m.settle + 1) 4 }).faultGroup g .share (some p)
    else s.updMember g p fun x => { x with settle := min (m.settle + 1) 4 } := by
  simp only [State.shareArrival, hg, hm]
  exact if_pos h

theorem State.shareArrival_settled (hstate : (s.group g).state = .moving)
    (hsupervised : m.state = .run ∨ m.state = .pause ∨ m.state = .coast) (hsettled : 3 ≤ m.settle) : s.shareArrival p =
      if shareFails (s.point p).load.value m.baseline (s.group g).bands.share then
        (s.updMember g p fun x => { x with settle := 4 }).faultGroup g .share (some p)
      else s.updMember g p fun x => { x with settle := 4 } := by
  have hmin : min (m.settle + 1) 4 = 4 := by omega
  rw [State.shareArrival_eq hg hm ⟨hstate, (MemberState.supervised_iff _).mpr hsupervised⟩, hmin]
  exact if_congr (and_iff_right rfl) rfl rfl

theorem State.senseChange_run (hstate : (s.group g).state = .moving) (hrun : m.state = .run) (v : Sense) :
    s.senseChange p v =
      if v = .still then s.updMember g p fun x => { x with runTimer := some (s.now + 400) }
      else if v = (s.group g).dir.sense then s
      else s.faultGroup g .wrongDirection (some p) := by
  simp only [State.senseChange, hg, hm, hstate, hrun]
  rfl

theorem State.senseChange_coast (hstate : (s.group g).state = .moving) (hcoast : m.state = .coast) (v : Sense) :
    s.senseChange p v = if v = .still then s.memberDone g m else s := by
  simp only [State.senseChange, hg, hm, hstate, hcoast]

theorem State.senseChange_halt (hstate : (s.group g).state = .stopping) (hhalt : m.state = .halt) (v : Sense) :
    s.senseChange p v = if v = .still then s.endStopping g else s := by
  simp only [State.senseChange, hg, hm, hstate, hhalt]

theorem State.senseChange_other (hrun : ¬ ((s.group g).state = .moving ∧ m.state = .run))
    (hcoast : ¬ ((s.group g).state = .moving ∧ m.state = .coast))
    (hhalt : ¬ ((s.group g).state = .stopping ∧ m.state = .halt)) (v : Sense) : s.senseChange p v = s := by
  simp only [State.senseChange, hg, hm]
  split
  next hs hr => exact absurd ⟨hs, hr⟩ hrun
  next hs hc => exact absurd ⟨hs, hc⟩ hcoast
  next hs hh => exact absurd ⟨hs, hh⟩ hhalt
  next => rfl

end Member

/-- R108: a timer that is not due does nothing. -/
theorem State.runTimerExpiry_early {s : State} {p : PointId} (h : ∀ g m d, (s.point p).group = some g →
    (s.group g).member p = some m → m.runTimer = some d → s.now < d) : s.runTimerExpiry p = s := by
  unfold State.runTimerExpiry
  split
  · rfl
  next g hg =>
    split
    · rfl
    next m hm =>
      refine if_neg fun hdue => ?_
      cases htimer : m.runTimer with
      | none =>
        rw [htimer] at hdue
        cases hdue
      | some d =>
        rw [htimer] at hdue
        have hearly := h g m d hg hm htimer
        have hlate : d ≤ s.now := of_decide_eq_true hdue
        omega

/-- Settles O41: each supervision by the member's state and the group's. -/
theorem timersSharesAndSensesAreSupervised : Obligations.TimersSharesAndSensesAreSupervised := by
  unfold Obligations.TimersSharesAndSensesAreSupervised
  refine ⟨fun s p hrun hquiet => ⟨fun g m d hg hm htimer hdue => ?due, fun hearly => ?early⟩,
    fun s p g m hg hm => ⟨fun hrest => ?rest, fun hmoving hsupervised => ⟨fun hlow => ?settling, fun hhigh =>
      ⟨fun habsent => ?_, fun hover => ?_, fun v base hv hbase => ?_⟩⟩, fun v => ⟨fun hs hr hv => ?_, fun hs hr hv => ?_,
        fun hs hr hv hne => ?_, fun hs hc hv => ?_, fun hs hh hv => ?_, fun hrun hcoast hhalt => ?_⟩⟩⟩
  case due =>
    have hdue' : s.due m.runTimer = true := by
      rw [htimer]
      exact decide_eq_true hdue
    have hquiet' : (s.updMember g p fun x => { x with runTimer := none }).Quiet := hquiet
    rw [exec_runTimerExpiry hrun, State.runTimerExpiry_due hg hm hdue']
    split_ifs with hsense
    · rw [State.flushPrompts_quiet hquiet']
      rfl
    · rfl
  case early => rw [exec_runTimerExpiry hrun, State.runTimerExpiry_early hearly, State.flushPrompts_quiet hquiet]
  case rest =>
    refine State.shareArrival_idle hg hm fun hboth => ?_
    obtain ⟨hstate, hsup⟩ := hboth
    rcases hrest with h | h | h | h
    · exact h hstate
    all_goals
      rw [h] at hsup
      cases hsup
  case settling =>
    have hmin : min (m.settle + 1) 4 = m.settle + 1 := by omega
    rw [State.shareArrival_eq hg hm ⟨hmoving, (MemberState.supervised_iff _).mpr hsupervised⟩, hmin,
      if_neg fun h => by omega]
    rfl
  · rw [State.shareArrival_settled hg hm hmoving hsupervised hhigh, habsent]
    rfl
  · rw [State.shareArrival_settled hg hm hmoving hsupervised hhigh, hover]
    rfl
  · rw [State.shareArrival_settled hg hm hmoving hsupervised hhigh, hv, hbase]
    exact if_congr (shareFails_iff v base _) rfl rfl
  · rw [State.senseChange_run hg hm hs hr, if_pos hv]
    rfl
  · rw [State.senseChange_run hg hm hs hr, if_neg (by rw [hv]; cases (s.group g).dir <;> nofun), if_pos hv]
  · rw [State.senseChange_run hg hm hs hr, if_neg hv, if_neg hne]
  · rw [State.senseChange_coast hg hm hs hc, if_pos hv]
  · rw [State.senseChange_halt hg hm hs hh, if_pos hv]
  · by_cases hc : (s.group g).state = .moving ∧ m.state = .coast
    · rw [State.senseChange_coast hg hm hc.1 hc.2, if_neg fun hv => hcoast ⟨hc.1, hc.2, hv⟩]
    · by_cases hh : (s.group g).state = .stopping ∧ m.state = .halt
      · rw [State.senseChange_halt hg hm hh.1 hh.2, if_neg fun hv => hhalt ⟨hh.1, hh.2, hv⟩]
      · exact State.senseChange_other hg hm hrun hc hh v

/-! ## Arrival (R100 to R103) -/

theorem Int.natCast_lt_natAbs {n : Nat} {x : Int} : n < x.natAbs ↔ (n : Int) < |x| := by
  rw [Int.abs_eq_natAbs, Nat.cast_lt]

/-- R101 step 1: the stop lead of the member's point. -/
theorem State.learn_eq {s : State} {m : Member} {final release : Int} (hfinal : s.pos m.point = some final)
    (hrelease : m.releasePos = some release) (d : Dir) : s.learn d m =
      if m.releasedMoving then s.setPoint m.point { s.point m.point with
        stopLead := (3 * (s.point m.point).stopLead + (max 0 (min 250 ((final - release) * d.sign))).toNat + 2) / 4 }
      else s := by
  cases hmoving : m.releasedMoving <;> simp only [State.learn, hmoving, hfinal, hrelease] <;> rfl

theorem State.learn_pos (s : State) (d : Dir) (m : Member) (p : PointId) : (s.learn d m).pos p = s.pos p := by
  unfold State.learn
  split
  · unfold State.pos
    rw [State.setPoint_point]
    split_ifs with hp
    · rw [hp]
    · rfl
  · rfl

theorem State.learn_group (s : State) (d : Dir) (m : Member) (g : GroupId) : (s.learn d m).group g = s.group g := by
  unfold State.learn
  split <;> rfl

theorem State.arrivalError_iff {s : State} {m : Member} {final t : Int} (hfinal : s.pos m.point = some final)
    (htarget : m.target = some t) (tolerance : Nat) :
    s.arrivalError tolerance m = true ↔ (tolerance : Int) < |final - t| := by
  simp only [State.arrivalError, hfinal, htarget]
  exact decide_eq_true_iff.trans Int.natCast_lt_natAbs

theorem State.complete_eq {s : State} {g : GroupId} {r : GroupRec} (hr : s.group g = r) : s.complete g =
    if ∀ k ∈ r.members, k.state = .done then
      if r.origin = .cue then
        ((s.setGroup g r.atRest).notifyOpt r.holder .groupDone (.group g)).cueCompleted g
      else (s.setGroup g r.atRest).notifyOpt r.holder .groupDone (.group g)
    else s := by
  have hall : ((s.group g).members.all fun m => m.state == .done) = true ↔ ∀ k ∈ r.members, k.state = .done := by
    simp [hr]
  have hholder : ((s.setGroup g r.atRest).group g).holder = r.holder := by
    rw [State.setGroup_group, if_pos rfl]
    rfl
  have hrested : { r.updAll Member.rested with state := .idle } = r.atRest := rfl
  unfold State.complete
  dsimp only
  rw [hr, hrested, State.notifyHolder, hholder]
  exact if_congr (by simp) rfl rfl

/-- R101: a COAST member enters DONE. -/
theorem State.memberDone_eq {s : State} {g : GroupId} {m : Member} {final t : Int}
    (hfinal : s.pos m.point = some final) (htarget : m.target = some t)
    {r : GroupRec} (hr : r = (s.group g).updMember m.point fun k => { k with state := .done }) {v w : State}
    (hv : v = (s.setGroup g r).learn (s.group g).dir m)
    (hw : w = if ((s.group g).bands.tolerance : Int) < |final - t| then
      v.notifyOpt r.holder .arrivalError (.point m.point) else v) : s.memberDone g m =
      if ∀ k ∈ r.members, k.state = .done then
        if r.origin = .cue then
          ((w.setGroup g r.atRest).notifyOpt r.holder .groupDone (.group g)).cueCompleted g
        else (w.setGroup g r.atRest).notifyOpt r.holder .groupDone (.group g)
      else w := by
  subst hr
  have hgroup : v.group g = (s.group g).updMember m.point fun k => { k with state := .done } := by
    rw [hv, State.learn_group, State.setGroup_group, if_pos rfl]
  have hpos : v.pos m.point = some final := by
    rw [hv, State.learn_pos]
    exact hfinal
  have hdone : s.memberDone g m = w.complete g := by
    unfold State.memberDone
    dsimp only
    rw [← hv, hw, State.notifyHolder, hgroup]
    exact congrArg (State.complete · g) (if_congr (State.arrivalError_iff hpos htarget _) rfl rfl)
  have hgroupW : w.group g = (s.group g).updMember m.point fun k => { k with state := .done } := by
    rw [hw]
    split_ifs
    · rw [State.notifyOpt_group, hgroup]
    · exact hgroup
  rw [hdone, State.complete_eq hgroupW]

theorem Member.released_eq {s : State} {m : Member} {x : Int} (hx : s.pos m.point = some x) (d : Dir) :
    s.releaseMember d m = { m with
      state := .coast
      runTimer := none
      releasePos := some x
      releasedMoving := decide (s.sense m.point = some d.sense) } := by
  rw [State.releaseMember, hx, beq_eq_decide]

/-- Settles O43: a release, then DONE in its steps, and the limit of a JOG. -/
theorem membersArriveAndAreLearnt : Obligations.MembersArriveAndAreLearnt := by
  unfold Obligations.MembersArriveAndAreLearnt
  refine ⟨fun s g m x t hx ht => ?release, fun s g m final release t hfinal hrelease htarget => ⟨?done, fun hlead => ?_⟩,
    fun s g m x hx => ?limit⟩
  case release =>
    have harrives : s.arrives (s.group g).dir m = true ↔ (t - x) * (s.group g).dir.sign ≤ ((s.point m.point).stopLead : Int) := by
      simp only [State.arrives, hx, ht]
      exact decide_eq_true_iff
    unfold State.checkArrival
    refine if_congr harrives ?_ rfl
    rw [Member.released_eq hx]
    rfl
  case done =>
    refine (State.memberDone_eq hfinal htarget rfl rfl rfl).trans ?_
    rw [State.learn_eq (s := s.setGroup g _) hfinal hrelease]
    rfl
  · have hmeasured : (max 0 (min 250 ((final - release) * (s.group g).dir.sign))).toNat ≤ 250 := by omega
    omega
  case limit =>
    have hatLimit : s.atLimit (s.group g).dir m.point = true ↔
        ((s.group g).dir = .up ∧ (s.point m.point).softMax ≤ x) ∨
          ((s.group g).dir = .down ∧ x ≤ (s.point m.point).softMin) := by
      rw [State.atLimit_iff, hx]
      simp
    have hholder : ((s.stopGroup g .limit).group g).holder = (s.group g).holder := State.stopGroup_holder s g .limit g
    unfold State.checkJogLimit
    rw [State.notifyHolder, hholder]
    exact if_congr hatLimit rfl rfl

end Sys2Proof.Machine
end

section
/-!
Level travel (O42): the leads of the travelling members against their least progress.
-/
namespace Sys2Proof.Machine

open Sys2Proof

/-! ## Progress and least progress (R97) -/

/-- A member that travels (Table 5-3). -/
def Member.Travels (m : Member) : Prop := m.state = .run ∨ m.state = .pause

theorem Member.travelling_iff (m : Member) : m.state.travelling = true ↔ m.Travels := by
  unfold Member.Travels
  cases m.state <;> simp [MemberState.travelling]

/-- How far a member has gone in a direction, where both its positions are known. -/
def State.gone (s : State) (d : Dir) (m : Member) : Int := ((s.pos m.point).getD 0 - m.startPos.getD 0) * d.sign

theorem State.progress_of_travels {s : State} {m : Member} (htravels : m.Travels) (hpos : s.pos m.point ≠ none)
    (hstart : m.startPos ≠ none) (d : Dir) : s.progress d m = some (s.gone d m) := by
  obtain ⟨x, hx⟩ := Option.ne_none_iff_exists'.mp hpos
  obtain ⟨x0, hx0⟩ := Option.ne_none_iff_exists'.mp hstart
  simp only [State.progress, State.gone, hx, hx0, if_pos (m.travelling_iff.mpr htravels), Option.getD_some]

theorem State.progress_of_not_travels {m : Member} (h : ¬ m.Travels) (s : State) (d : Dir) : s.progress d m = none :=
  if_neg (mt m.travelling_iff.mp h)

theorem State.leadsBy_of_not_travels {m : Member} (h : ¬ m.Travels) (s : State) (g : GroupId) (level : Nat) :
    s.leadsBy g level m = false := by
  simp only [State.leadsBy, State.lead, State.progress_of_not_travels h]

theorem State.pauseOrResume_of_not_travels {m : Member} (h : ¬ m.Travels) (s : State) (g : GroupId) :
    s.pauseOrResume g m = m := by
  unfold State.pauseOrResume
  split
  next hrun => exact absurd (.inl hrun) h
  next hpause => exact absurd (.inr hpause) h
  next => rfl

/-- L is the least progress of the travelling members of a group, and the progress of each is known. -/
structure State.LeastIs (s : State) (g : GroupId) (L : Int) : Prop where
  known : ∀ m ∈ (s.group g).members, m.Travels → s.pos m.point ≠ none ∧ m.startPos ≠ none
  attained : ∃ m ∈ (s.group g).members, m.Travels ∧ s.gone (s.group g).dir m = L
  least : ∀ m ∈ (s.group g).members, m.Travels → L ≤ s.gone (s.group g).dir m

/-- A member as R98 leaves it, given the least progress. -/
def State.levelled (s : State) (g : GroupId) (L : Int) (m : Member) : Member :=
  if m.state = .run ∧ ((s.group g).bands.pause : Int) ≤ s.gone (s.group g).dir m - L then
    { m with state := .pause, runTimer := none }
  else if m.state = .pause ∧ s.gone (s.group g).dir m - L ≤ ((s.group g).bands.resume : Int) then
    { m with state := .run, runTimer := some (s.now + 400) }
  else m

theorem State.levelled_travels {s : State} {g : GroupId} {L : Int} {m : Member} (h : m.Travels) :
    (s.levelled g L m).Travels := by
  unfold State.levelled
  split_ifs
  · exact .inr rfl
  · exact .inl rfl
  · exact h

section Leads

variable {s : State} {g : GroupId} {L : Int} (h : s.LeastIs g L)
include h

theorem State.LeastIs.progress_eq {m : Member} (hm : m ∈ (s.group g).members) (htravels : m.Travels) :
    s.progress (s.group g).dir m = some (s.gone (s.group g).dir m) :=
  State.progress_of_travels htravels (h.known m hm htravels).1 (h.known m hm htravels).2 _

theorem State.LeastIs.leastProgress_eq : s.leastProgress g = some L := by
  refine List.min?_eq_some_iff.mpr ⟨?_, fun x hx => ?_⟩
  · obtain ⟨m, hm, htravels, hL⟩ := h.attained
    exact List.mem_filterMap.mpr ⟨m, hm, hL ▸ h.progress_eq hm htravels⟩
  · obtain ⟨m, hm, hx⟩ := List.mem_filterMap.mp hx
    have htravels : m.Travels := by
      by_contra hstands
      rw [State.progress_of_not_travels hstands] at hx
      exact absurd hx (Option.some_ne_none x).symm
    rw [h.progress_eq hm htravels] at hx
    exact Option.some.inj hx ▸ h.least m hm htravels

theorem State.LeastIs.lead_eq {m : Member} (hm : m ∈ (s.group g).members) (htravels : m.Travels) :
    s.lead g m = some (s.gone (s.group g).dir m - L) := by
  simp only [State.lead, h.progress_eq hm htravels, h.leastProgress_eq]

theorem State.LeastIs.leadsBy_iff {m : Member} (hm : m ∈ (s.group g).members) (htravels : m.Travels) (level : Nat) :
    s.leadsBy g level m = true ↔ (level : Int) ≤ s.gone (s.group g).dir m - L := by
  simp only [State.leadsBy, h.lead_eq hm htravels, decide_eq_true_iff]

theorem State.LeastIs.leadWithin_iff {m : Member} (hm : m ∈ (s.group g).members) (htravels : m.Travels) (level : Nat) :
    s.leadWithin g level m = true ↔ s.gone (s.group g).dir m - L ≤ (level : Int) := by
  simp only [State.leadWithin, h.lead_eq hm htravels, decide_eq_true_iff]

/-! ## Pause and resume (R98) -/

theorem State.LeastIs.pauseOrResume_eq {m : Member} (hm : m ∈ (s.group g).members) :
    s.pauseOrResume g m = s.levelled g L m := by
  unfold State.pauseOrResume State.levelled
  split
  next hrun =>
    have hpause : m.state ≠ .pause := by simp [hrun]
    rw [if_neg (fun hboth => hpause hboth.1 : ¬ (m.state = .pause ∧ _))]
    exact if_congr ((h.leadsBy_iff hm (.inl hrun) _).trans (and_iff_right hrun).symm) rfl rfl
  next hpause =>
    have hrun : m.state ≠ .run := by simp [hpause]
    rw [if_neg (fun hboth => hrun hboth.1 : ¬ (m.state = .run ∧ _))]
    exact if_congr ((h.leadWithin_iff hm (.inr hpause) _).trans (and_iff_right hpause).symm) rfl rfl
  next hrun hpause =>
    rw [if_neg fun hboth => hrun hboth.1, if_neg fun hboth => hpause hboth.1]

theorem State.LeastIs.levelMembers_eq : s.levelMembers g =
    s.setGroup g { s.group g with members := (s.group g).members.map (s.levelled g L) } := by
  have hmap : (s.group g).members.map (s.pauseOrResume g) = (s.group g).members.map (s.levelled g L) :=
    List.map_congr_left fun _ hm => h.pauseOrResume_eq hm
  rw [State.levelMembers, GroupRec.updAll, hmap]

theorem State.LeastIs.levelMembers_group : (s.levelMembers g).group g =
    { s.group g with members := (s.group g).members.map (s.levelled g L) } := by
  rw [h.levelMembers_eq, State.setGroup_group, if_pos rfl]

/-- The member of least progress is in RUN afterward: its lead is 0. -/
theorem State.LeastIs.runs (hpause : 0 < (s.group g).bands.pause) :
    ∃ m ∈ ((s.levelMembers g).group g).members, m.state = .run := by
  obtain ⟨m, hm, htravels, hL⟩ := h.attained
  rw [h.levelMembers_group]
  refine ⟨s.levelled g L m, List.mem_map_of_mem hm, ?_⟩
  have hlead : s.gone (s.group g).dir m - L = 0 := by omega
  unfold State.levelled
  rw [hlead]
  obtain hrun | hpaused := htravels
  · rw [if_neg (by omega), if_neg (by simp [hrun]), hrun]
  · rw [if_neg (by simp [hpaused]), if_pos ⟨hpaused, Int.natCast_nonneg _⟩]

theorem State.LeastIs.member_levelled {p : PointId} {m : Member} (hm : (s.group g).member p = some m) :
    ((s.levelMembers g).group g).member p = some (s.levelled g L m) := by
  have hpoint : (fun k : Member => k.point == p) ∘ s.levelled g L = fun k => k.point == p := by
    funext k
    unfold State.levelled
    dsimp only [Function.comp_apply]
    split_ifs <;> rfl
  rw [h.levelMembers_group, GroupRec.member, List.find?_map, hpoint]
  exact congrArg (Option.map _) hm

/-! ## A position report (R96) -/

variable {p : PointId} (hg : (s.point p).group = some g) (hmoving : (s.group g).state = .moving)
include hg hmoving

theorem State.LeastIs.report_trips {pre post : List Member} {m : Member} (hmembers : (s.group g).members = pre ++ m :: post)
    (hpre : ∀ k ∈ pre, k.Travels → s.gone (s.group g).dir k - L < ((s.group g).bands.trip : Int)) (htravels : m.Travels)
    (htrip : ((s.group g).bands.trip : Int) ≤ s.gone (s.group g).dir m - L) :
    s.positionReport p = s.faultGroup g .skew (some m.point) := by
  have hmem : ∀ k ∈ pre ++ m :: post, k ∈ (s.group g).members := fun k hk => hmembers ▸ hk
  have hfirst : (s.group g).members.find? (s.leadsBy g (s.group g).bands.trip) = some m := by
    refine List.find?_eq_some_iff_append.mpr ⟨(h.leadsBy_iff (hmem m (by simp)) htravels _).mpr htrip, pre, post, hmembers,
      fun k hk => ?_⟩
    by_cases hk' : k.Travels
    · have hbelow := hpre k hk hk'
      have hnot := mt (h.leadsBy_iff (hmem k (by simp [hk])) hk' _).mp (Int.not_le.mpr hbelow)
      simpa using hnot
    · rw [State.leadsBy_of_not_travels hk']
      rfl
  simp only [State.positionReport, hg, if_pos hmoving, hfirst]

theorem State.LeastIs.report_levels
    (hbelow : ∀ k ∈ (s.group g).members, k.Travels → s.gone (s.group g).dir k - L < ((s.group g).bands.trip : Int)) :
    s.positionReport p = (s.levelMembers g).checkReporter g p := by
  have hnone : (s.group g).members.find? (s.leadsBy g (s.group g).bands.trip) = none := by
    refine List.find?_eq_none.mpr fun k hk => ?_
    by_cases hk' : k.Travels
    · exact mt (h.leadsBy_iff hk hk' _).mp (Int.not_le.mpr (hbelow k hk hk'))
    · rw [State.leadsBy_of_not_travels hk']
      exact Bool.false_ne_true
  simp only [State.positionReport, hg, if_pos hmoving, hnone]

end Leads

theorem State.checkReporter_standing {s : State} {g : GroupId} {p : PointId}
    (h : ∀ m, (s.group g).member p = some m → ¬ m.Travels) : s.checkReporter g p = s := by
  unfold State.checkReporter
  split
  next m hm => exact if_neg (mt m.travelling_iff.mp (h m hm))
  next => rfl

theorem State.checkReporter_travels {s : State} {g : GroupId} {p : PointId} {m : Member}
    (hm : (s.group g).member p = some m) (h : m.Travels) : s.checkReporter g p = match (s.group g).kind with
      | .target => s.checkArrival g m
      | .jog => s.checkJogLimit g m := by
  simp only [State.checkReporter, hm, if_pos (m.travelling_iff.mpr h)] <;> rfl

/-- With no member travelling there is no lead, no change of state and no arrival. -/
theorem State.positionReport_standing {s : State} {p : PointId} {g : GroupId} (hg : (s.point p).group = some g)
    (hmoving : (s.group g).state = .moving) (h : ∀ m ∈ (s.group g).members, ¬ m.Travels) : s.positionReport p = s := by
  have hnone : (s.group g).members.find? (s.leadsBy g (s.group g).bands.trip) = none :=
    List.find?_eq_none.mpr fun k hk => by
      rw [State.leadsBy_of_not_travels (h k hk)]
      exact Bool.false_ne_true
  have hsame : (s.group g).members.map (s.pauseOrResume g) = (s.group g).members :=
    (List.map_congr_left fun k hk => State.pauseOrResume_of_not_travels (h k hk) s g).trans (List.map_id' _)
  have hlevel : s.levelMembers g = s := by
    rw [State.levelMembers, GroupRec.updAll, hsame]
    exact s.setGroup_self g
  simp only [State.positionReport, hg, if_pos hmoving, hnone, hlevel]
  exact State.checkReporter_standing fun m hm => h m (GroupRec.member_mem hm).1

theorem State.positionReport_at_rest {s : State} {p : PointId}
    (h : ∀ g, (s.point p).group = some g → (s.group g).state ≠ .moving) : s.positionReport p = s := by
  unfold State.positionReport
  split
  next => rfl
  next g hg => exact if_neg (h g hg)

/-- Settles O42: every clause goes by the least progress of the travelling members. -/
theorem leadsTripPauseAndResume : Obligations.LeadsTripPauseAndResume := by
  unfold Obligations.LeadsTripPauseAndResume
  refine ⟨fun s g L hmoving hknown hattained hleast => ?_, fun s p g hg hmoving hstand =>
    State.positionReport_standing hg hmoving fun m hm => not_or.mpr (hstand m hm), fun s p hrest =>
    State.positionReport_at_rest hrest⟩
  have h : s.LeastIs g L := ⟨hknown, hattained, hleast⟩
  refine ⟨fun pre m post hmembers hpre htravels htrip p hg => h.report_trips hg hmoving hmembers hpre htravels htrip,
    h.levelMembers_eq, h.runs, fun p m hg hm hrun hpause hbelow => ?_, fun p m hg hm htravels hbelow => ?_⟩
  · have hstands : ¬ m.Travels := not_or.mpr ⟨hrun, hpause⟩
    have hlevelled : s.levelled g L m = m :=
      (h.pauseOrResume_eq (GroupRec.member_mem hm).1).symm.trans (State.pauseOrResume_of_not_travels hstands s g)
    rw [h.report_levels hg hmoving hbelow]
    refine State.checkReporter_standing fun k hk => ?_
    rw [h.member_levelled hm, hlevelled] at hk
    exact Option.some.inj hk ▸ hstands
  · have hkind : ((s.levelMembers g).group g).kind = (s.group g).kind := by rw [h.levelMembers_group]
    rw [h.report_levels hg hmoving hbelow,
      State.checkReporter_travels (h.member_levelled hm) (State.levelled_travels htravels), hkind]
    rfl

end Sys2Proof.Machine
end

section
/-!
The stop flags (O44): at an indication change, cleared, and configured.
-/
namespace Sys2Proof.Machine

open Sys2Proof

/-! ## A flag at an indication change (R119, R120) -/

/-- Table 6-2: the bits of two indications set a flag in a mode. -/
def DetectMode.sets (mode : DetectMode) (before now : Bool) : Bool :=
  match mode with
  | .level => now
  | .edge => now && !before

theorem flagAfter_eq (mode : DetectMode) (before now flag : Bool) :
    flagAfter mode before now flag = (flag || mode.sets before now) := by
  cases mode <;> rfl

theorem PerKind.set_self {α : Type} (v : PerKind α) (k : StopKind) : v.set k (v.get k) = v :=
  PerKind.ext_get fun j => by
    rw [PerKind.get_set]
    split_ifs with h
    · rw [h]
    · rfl

theorem State.setStop_self (s : State) (p : PointId) : s.setStop p (s.point p).stop = s := s.setPoint_self p

theorem State.setStop_setStop (s : State) (p : PointId) (t t' : StopPart) : (s.setStop p t).setStop p t' = s.setStop p t' := by
  rw [State.setStop, State.setStop, State.setPoint_setPoint, State.setPoint_point, if_pos rfl]
  rfl

theorem State.setStop_noteIf (s : State) (p : PointId) (t : StopPart) (b : Bool) (k : NoticeKind) (u : Subject) :
    (s.setStop p t).noteIf b k u = (s.noteIf b k u).setStop p t := by
  unfold State.noteIf
  cases b <;> rfl

theorem State.setStop_accepted (s : State) (p : PointId) (t : StopPart) (x : PointId) :
    (s.setStop p t).accepted x = s.accepted x := by
  have hslot : ((s.setStop p t).point x).boundSlot = (s.point x).boundSlot := by
    rw [State.setStop_point]
    split_ifs with h
    · rw [h]
    · rfl
  unfold State.accepted
  rw [hslot]
  rfl

theorem State.setStop_pointGroup (s : State) (p : PointId) (t : StopPart) : ((s.setStop p t).point p).group = (s.point p).group := by
  rw [State.setStop_point, if_pos rfl]

/-- Table 6-3: UPPER faults an upward move, LOWER a downward one, the other kinds both. -/
theorem StopKind.faults_iff (k : StopKind) (d : Dir) :
    k.faults d = true ↔ (k = .upper → d = .up) ∧ (k = .lower → d = .down) := by
  cases k <;> cases d <;> simp [StopKind.faults]

theorem StopKind.not_faults_iff (k : StopKind) (d : Dir) :
    k.faults d = false ↔ (k = .upper ∧ d = .down) ∨ (k = .lower ∧ d = .up) := by
  cases k <;> cases d <;> simp [StopKind.faults]

theorem State.stopInputFault_faults {s : State} {p : PointId} {g : GroupId} {k : StopKind} (hg : (s.point p).group = some g)
    (hmoving : (s.group g).state = .moving) (hmask : (s.point p).stop.masks.get k = true)
    (hdir : k.faults (s.group g).dir = true) : s.stopInputFault p k = s.faultGroup g .stopInput (some p) := by
  simp only [State.stopInputFault, State.movingDir, State.faultPoint, hg, if_pos hmoving, hmask, hdir, and_self, if_true]

theorem State.stopInputFault_spares {s : State} {p : PointId} {k : StopKind}
    (h : ∀ g, (s.point p).group = some g → (s.group g).state ≠ .moving ∨ (s.point p).stop.masks.get k = false ∨
      k.faults (s.group g).dir = false) : s.stopInputFault p k = s := by
  cases hg : (s.point p).group with
  | none => simp only [State.stopInputFault, State.movingDir, hg]
  | some g =>
    by_cases hmoving : (s.group g).state = .moving
    · have hoff := (h g hg).resolve_left (not_not_intro hmoving)
      simp only [State.stopInputFault, State.movingDir, hg, if_pos hmoving]
      refine if_neg fun hfault => ?_
      obtain hmask | hdir := hoff
      · exact Bool.false_ne_true (hmask.symm.trans hfault.1)
      · exact Bool.false_ne_true (hdir.symm.trans hfault.2)
    · simp only [State.stopInputFault, State.movingDir, hg, if_neg hmoving]

/-- R120: a newly set flag, with its notice. -/
def State.flagSet (s : State) (p : PointId) (k : StopKind) : State :=
  (s.setStop p { (s.point p).stop with flags := (s.point p).stop.flags.set k true }).notifyAll .stopInput (.point p)

theorem State.flagSet_point (s : State) (p : PointId) (k : StopKind) : (s.flagSet p k).point p =
    { s.point p with stop := { (s.point p).stop with flags := (s.point p).stop.flags.set k true } } := by
  rw [State.flagSet, State.notifyAll_point, State.setStop_point, if_pos rfl]

section Flag

variable {s : State} {p : PointId} {before now : PerKind Bool} {k : StopKind}

theorem State.stopFlag_kept
    (h : ((s.point p).stop.modes.get k).sets (before.get k) (now.get k) = false ∨ (s.point p).stop.flags.get k = true) :
    s.stopFlag p before now k = s := by
  have hflag : flagAfter ((s.point p).stop.modes.get k) (before.get k) (now.get k) ((s.point p).stop.flags.get k) =
      (s.point p).stop.flags.get k := by
    rw [flagAfter_eq]
    obtain hsets | hset := h
    · rw [hsets, Bool.or_false]
    · rw [hset, Bool.true_or]
  unfold State.stopFlag
  dsimp only
  rw [hflag, PerKind.set_self, if_neg fun hnew => hnew.2 hnew.1]
  exact s.setStop_self p

theorem State.stopFlag_sets (hsets : ((s.point p).stop.modes.get k).sets (before.get k) (now.get k) = true)
    (hclear : (s.point p).stop.flags.get k = false) :
    s.stopFlag p before now k = (s.flagSet p k).stopInputFault p k := by
  have hflag : flagAfter ((s.point p).stop.modes.get k) (before.get k) (now.get k) ((s.point p).stop.flags.get k) =
      true := by
    rw [flagAfter_eq, hsets, Bool.or_true]
  unfold State.stopFlag
  dsimp only
  rw [hflag, hclear, if_pos ⟨rfl, Bool.false_ne_true⟩]
  rfl

end Flag

/-! ## CLEAR_STOP_FLAGS (R122) -/

theorem State.acceptedStops_get (s : State) (p : PointId) (k : StopKind) : (s.acceptedStops p).get k =
    match s.accepted p with
    | some v => v.stops.get k
    | none => false :=
  (stopsOf_get (s.accepted p) k).trans rfl

/-- Table 6-4: only the flag of a LEVEL mode whose bit is present stays. -/
theorem flagAfterClear_eq (mode : DetectMode) (bit : Bool) : flagAfterClear mode bit = (decide (mode = .level) && bit) := by
  cases mode <;> simp [flagAfterClear]

theorem StopPart.clearFlags_eq (t : StopPart) (bits : PerKind Bool) {f : StopKind → Bool}
    (hf : ∀ k, f k = (decide (t.modes.get k = .level) && bits.get k)) :
    t.clearFlags bits = { t with flags := ⟨f .upper, f .lower, f .slack, f .thermal⟩, runaway := false } := by
  simp only [StopPart.clearFlags, flagAfterClear_eq, hf]
  rfl

/-! ## SET_STOP_CONFIG (R124) -/

theorem masksByte_bits {b : Byte} (h : b.toNat < 16) :
    masksByte ⟨b.getLsbD 0, b.getLsbD 1, b.getLsbD 2, b.getLsbD 3⟩ = b := by
  revert b
  decide

theorem masksByte_masksOf {b : Byte} {e : PerKind Bool} (h : masksOf b = some e) : masksByte e = b := by
  unfold masksOf at h
  split_ifs at h with hb
  exact Option.some.inj h ▸ masksByte_bits hb

theorem modeOfBit_isEdge (b : Bool) : (modeOfBit b).isEdge = b := by cases b <;> rfl

theorem modesByte_modesOf {b : Byte} {d : PerKind DetectMode} (h : modesOf b = some d) : modesByte d = b := by
  unfold modesOf at h
  split_ifs at h with hb
  rw [← Option.some.inj h, modesByte]
  simp only [modeOfBit_isEdge]
  exact masksByte_bits hb

/-- A mode that has become LEVEL from EDGE finds its bit present. -/
def turns (before now : PerKind DetectMode) (bits : PerKind Bool) (k : StopKind) : Bool :=
  decide (before.get k = .edge) && decide (now.get k = .level) && bits.get k

theorem State.levelFlag_setStop (s : State) (p : PointId) (t : StopPart) (before : PerKind DetectMode) (k : StopKind) :
    (s.setStop p t).levelFlag p before k =
      (s.noteIf (turns before t.modes (s.acceptedStops p) k && !t.flags.get k) .stopInput (.point p)).setStop p
        { t with flags := t.flags.set k (t.flags.get k || turns before t.modes (s.acceptedStops p) k) } := by
  have hstops : (s.setStop p t).acceptedStops p = s.acceptedStops p := congrArg stopsOf (s.setStop_accepted p t p)
  have hstop : ((s.setStop p t).point p).stop = t := by rw [State.setStop_point, if_pos rfl]
  have hcond : (before.get k = .edge ∧ t.modes.get k = .level ∧ (s.acceptedStops p).get k = true) ↔
      turns before t.modes (s.acceptedStops p) k = true := by
    simp [turns, and_assoc]
  unfold State.levelFlag
  dsimp only
  rw [hstop, hstops, State.setStop_setStop]
  refine (if_congr hcond rfl rfl).trans ?_
  cases hturns : turns before t.modes (s.acceptedStops p) k with
  | false =>
    rw [Bool.or_false, PerKind.set_self]
    rfl
  | true =>
    rw [Bool.or_true, if_pos rfl]
    cases t.flags.get k <;> rfl

/-- R124 for kinds that occur once: each flag that a turned mode finds present is set, with a notice if it was clear. -/
theorem State.levelFlags_setStop (p : PointId) (before : PerKind DetectMode) (bits : PerKind Bool) {l : List StopKind}
    (hl : l.Nodup) (s : State) (t : StopPart) (hbits : s.acceptedStops p = bits) :
    l.foldl (fun u k => u.levelFlag p before k) (s.setStop p t) =
      (l.filter fun k => turns before t.modes bits k && !t.flags.get k).foldl
        (fun u _ => u.notifyAll .stopInput (.point p))
        (s.setStop p { t with
          flags := l.foldl (fun f k => f.set k (f.get k || turns before t.modes bits k)) t.flags }) := by
  induction l generalizing s t with
  | nil => rfl
  | cons k l ih =>
    obtain ⟨hk, hl⟩ := List.nodup_cons.mp hl
    rw [List.foldl_cons, State.levelFlag_setStop, hbits]
    generalize hb : (turns before t.modes bits k && !t.flags.get k) = b
    have hstops : (s.noteIf b .stopInput (.point p)).acceptedStops p = bits := by
      rw [← hbits]
      cases b <;> rfl
    have hrest : (l.filter fun j => turns before t.modes bits j &&
        !(t.flags.set k (t.flags.get k || turns before t.modes bits k)).get j) =
        l.filter fun j => turns before t.modes bits j && !t.flags.get j := by
      refine List.filter_congr fun j hj => ?_
      rw [PerKind.get_set, if_neg (ne_of_mem_of_not_mem hj hk)]
    rw [ih hl _ _ hstops, hrest, List.filter_cons, hb, ← State.setStop_noteIf, List.foldl_cons]
    cases b <;> rfl

/-- R124: the stop part of a point with the modes and masks stored and the turned kinds' flags set. -/
def State.configured (s : State) (p : PointId) (d : PerKind DetectMode) (e : PerKind Bool) : StopPart :=
  let t := (s.point p).stop
  let f := fun k => t.flags.get k || turns t.modes d (s.acceptedStops p) k
  ⟨⟨f .upper, f .lower, f .slack, f .thermal⟩, d, e, t.runaway⟩

theorem touched_notices (s : State) (q : Port) (p : PointId) (l : List StopKind) :
    l.foldl (fun u _ => u.notifyAll .stopInput (.point p)) (s.touched q) =
      (l.foldl (fun u _ => u.notifyAll .stopInput (.point p)) s).touched q :=
  List.foldl_hom (State.touched · q) fun _ _ => rfl

/-- Settles O44: the flags at an indication change, one flag by its mode and mask, and the two requests. -/
theorem stopFlagsAreClearedAndConfigured : Obligations.StopFlagsAreClearedAndConfigured := by
  unfold Obligations.StopFlagsAreClearedAndConfigured
  refine ⟨fun s p before v => ?change, fun s p before now k => ⟨fun hkept => ?kept, fun hsets hclear =>
    ⟨fun g hg hmoving hmask hup hdown => ?faults, fun hspared => ?spares⟩⟩, fun s q tag b modes masks htakes =>
    ⟨fun hb => ?_, fun hbad => ?_, fun p hb => ⟨?clear, fun d e hd he => ⟨fun hactive => ?busy, fun hrest => ?config⟩⟩⟩⟩
  case change =>
    cases before <;> rfl
  case kept =>
    exact State.stopFlag_kept (hkept)
  case faults =>
    have hpoint := s.flagSet_point p k
    rw [State.stopFlag_sets hsets hclear]
    refine State.stopInputFault_faults (by rw [hpoint]; exact hg) hmoving (by rw [hpoint]; exact hmask)
      ((k.faults_iff _).mpr ⟨hup, hdown⟩)
  case spares =>
    have hpoint := s.flagSet_point p k
    rw [State.stopFlag_sets hsets hclear]
    refine State.stopInputFault_spares fun g hg => ?_
    rw [hpoint] at hg ⊢
    exact (hspared g hg).imp_right (Or.imp_right (k.not_faults_iff _).mpr)
  · exact congrArg Host.Outcome.next (State.request_denies htakes 0x50 tag _ .badArgument (by rw [reqClearStopFlags, hb]))
  · refine congrArg Host.Outcome.next (State.request_denies htakes 0x51 tag _ .badArgument ?_)
    have hmodes (h : 16 ≤ modes.toNat) : modesOf modes = none := if_neg (Nat.not_lt.mpr h)
    have hmasks (h : 16 ≤ masks.toNat) : masksOf masks = none := if_neg (Nat.not_lt.mpr h)
    unfold reqSetStopConfig
    split
    next hp hd he =>
      obtain hb | hhigh | hhigh := hbad
      · exact absurd (hb.symm.trans hp) (by simp)
      · exact absurd ((hmodes hhigh).symm.trans hd) (by simp)
      · exact absurd ((hmasks hhigh).symm.trans he) (by simp)
    next => rfl
  case clear =>
    split_ifs with hrunaway
    · exact congrArg Host.Outcome.next (State.request_denies htakes 0x50 tag _ .busy (by
        simp only [reqClearStopFlags, hb]
        exact if_pos hrunaway))
    · refine congrArg Host.Outcome.next (State.request_calm htakes 0x50 tag _ (s.setStop p _) (.ok _) htakes.quiet ?_)
      simp only [reqClearStopFlags, hb]
      refine (if_neg hrunaway).trans ?_
      have hflags := (s.point p).stop.clearFlags_eq (s.acceptedStops p) (f := fun k =>
        decide ((s.point p).stop.modes.get k = .level) && (match s.accepted p with
          | some v => v.stops.get k
          | none => false)) fun k => by rw [State.acceptedStops_get]
      rw [State.touched_setStop]
      exact congrArg (fun t => ((s.setStop p t).touched q, Reply.ok [flagsByte t])) hflags
  case busy =>
    refine congrArg Host.Outcome.next (State.request_denies htakes 0x51 tag _ .busy ?_)
    simp only [reqSetStopConfig, hb, hd, he]
    exact if_pos ((s.pointActive_iff p).mpr hactive)
  case config =>
    have hidle : ¬ (s.touched q).pointActive p = true := by
      rw [State.touched_pointActive, s.pointActive_iff p]
      rintro ⟨g, hg, hmoving | hstopping⟩
      · exact (hrest g hg).1 hmoving
      · exact (hrest g hg).2 hstopping
    have hbody : reqSetStopConfig b modes masks (s.touched q) =
        (((allKinds.filter fun k => turns (s.point p).stop.modes d (s.acceptedStops p) k && !(s.point p).stop.flags.get k).foldl
          (fun u _ => u.notifyAll .stopInput (.point p)) (s.setStop p (s.configured p d e))).touched q,
        .ok [modes, masks]) := by
      simp only [reqSetStopConfig, hb, hd, he, if_neg hidle, modesByte_modesOf hd, masksByte_masksOf he]
      rw [State.levelFlags_setStop p _ (s.acceptedStops p) (by decide) (s.touched q) _ rfl, State.touched_setStop,
        touched_notices]
      rfl
    refine (congrArg Host.Outcome.next (State.request_effect htakes 0x51 tag _ _ _ hbody)).trans ?_
    have hturns (k : StopKind) : turns (s.point p).stop.modes d (s.acceptedStops p) k =
        (decide ((s.point p).stop.modes.get k = .edge) && decide (d.get k = .level) &&
          (match s.accepted p with
          | some v => v.stops.get k
          | none => false)) := by
      rw [turns, State.acceptedStops_get]
    simp only [State.configured, hturns]
    rfl

end Sys2Proof.Machine
end

section
/-!
The mains, ESTOP and runaways (O45).
-/
namespace Sys2Proof.Machine

open Sys2Proof

/-! ## Faults of several groups (R114, R130) -/

/-- The record a fault request leaves of its group. -/
def State.faultOutcome (s : State) (c : FaultCause) (g : GroupId) : GroupRec :=
  if (s.group g).state = .moving ∨ (s.group g).state = .stopping then (s.group g).faulted c.kind c.subject else s.group g

theorem State.faultGroup_outcome (s : State) (g : GroupId) (c : FaultCause) :
    (s.faultGroup g c.kind c.subject).group g = s.faultOutcome c g := by
  rw [State.faultGroup_group]
  exact if_congr ((and_iff_right rfl).trans (GroupState.active_iff _)) rfl rfl

theorem State.faultGroup_other (s : State) {g x : GroupId} (h : x ≠ g) (c : FaultCause) :
    (s.faultGroup g c.kind c.subject).group x = s.group x := by
  rw [State.faultGroup_group, if_neg fun hx => h hx.1]

/-- Faults of different groups, one after the other, each leave what they would leave alone. -/
theorem State.faultGroups_group (cause : GroupId → FaultCause) {l : List GroupId} (hl : l.Nodup) (s : State) (x : GroupId) :
    (l.foldl (fun t g => t.faultGroup g (cause g).kind (cause g).subject) s).group x =
      if x ∈ l then s.faultOutcome (cause x) x else s.group x := by
  induction l generalizing s with
  | nil => rfl
  | cons g l ih =>
    obtain ⟨hg, hl⟩ := List.nodup_cons.mp hl
    rw [List.foldl_cons, ih hl]
    by_cases hx : x = g
    · subst hx
      rw [if_neg hg, if_pos List.mem_cons_self, State.faultGroup_outcome]
    · simp only [List.mem_cons, hx, false_or, State.faultOutcome, s.faultGroup_other hx]

/-- Of several groups only those MOVING or STOPPING at the outset are faulted. -/
theorem State.faultGroups_eq_filter (cause : GroupId → FaultCause) {l : List GroupId} (hl : l.Nodup) (s : State) :
    l.foldl (fun t g => t.faultGroup g (cause g).kind (cause g).subject) s =
      (l.filter fun g => (s.group g).state == .moving || (s.group g).state == .stopping).foldl
        (fun t g => t.faultGroup g (cause g).kind (cause g).subject) s := by
  induction l generalizing s with
  | nil => rfl
  | cons g l ih =>
    obtain ⟨hg, hl⟩ := List.nodup_cons.mp hl
    have hrest : (l.filter fun x => ((s.faultGroup g (cause g).kind (cause g).subject).group x).state == .moving ||
        ((s.faultGroup g (cause g).kind (cause g).subject).group x).state == .stopping) =
        l.filter fun x => (s.group x).state == .moving || (s.group x).state == .stopping :=
      List.filter_congr fun x hx => by rw [s.faultGroup_other (ne_of_mem_of_not_mem hx hg)]
    have hactive : ((s.group g).state == .moving || (s.group g).state == .stopping) = (s.group g).state.active := by
      cases (s.group g).state <;> rfl
    rw [List.foldl_cons, ih hl, hrest, List.filter_cons, hactive]
    by_cases h : (s.group g).state.active = true
    · rw [if_pos h, List.foldl_cons]
    · rw [if_neg h, State.faultGroup_of_not_active h]

/-! ## A trip (R130) -/

/-- The mains has tripped, with its notice, and no group has been faulted yet. -/
def State.tripped (s : State) (c : TripCause) : State :=
  (s.setStopUnit { s.stopUnit with mains := .tripped, tripCause := c }).notifyAll .mainsTripped c.subject

theorem State.tripMains_closed {s : State} (h : s.stopUnit.mains = .closed) (c : TripCause) :
    s.tripMains c = (s.tripped c).faultAll (s.tripFault c) := if_pos h

theorem State.tripMains_mains (s : State) (c : TripCause) : (s.tripMains c).stopUnit.mains = .tripped := by
  by_cases h : s.stopUnit.mains = .closed
  · rw [State.tripMains_closed h, ((blind_faultAll _).2 _).stopUnit]
    rfl
  · rw [State.tripMains_of_tripped h, Mains.tripped_of_not_closed h]

theorem State.touched_faultAll (s : State) (q : Port) (cause : GroupId → FaultCause) :
    (s.touched q).faultAll cause = (s.faultAll cause).touched q :=
  List.foldl_hom (State.touched · q) fun t g => t.touched_faultGroup q g _ _

theorem State.touched_tripMains (s : State) (q : Port) (c : TripCause) :
    (s.touched q).tripMains c = (s.tripMains c).touched q := by
  by_cases h : s.stopUnit.mains = .closed
  · have hcause : (s.touched q).tripFault c = s.tripFault c := by
      funext g
      cases c <;> rfl
    have htripped : (s.touched q).tripped c = (s.tripped c).touched q := rfl
    rw [State.tripMains_closed h, State.tripMains_closed (s := s.touched q) h, hcause, htripped, State.touched_faultAll]
  · rw [State.tripMains_of_tripped h, State.tripMains_of_tripped (s := s.touched q) h]

theorem State.tripped_faultOutcome (s : State) (c : TripCause) (k : FaultCause) (g : GroupId) :
    (s.tripped c).faultOutcome k g = s.faultOutcome k g := rfl

/-- R130 step 3: ESTOP, the runaway point's own group, or MAINS. -/
theorem State.tripFault_fields (s : State) (c : TripCause) (g : GroupId) {α : Type} (f : FaultKind → Option PointId → α) :
    f (s.tripFault c g).kind (s.tripFault c g).subject = match c with
      | .estop => f .estop none
      | .runaway p => if (s.point p).group = some g then f .runaway (some p) else f .mains none
      | _ => f .mains none := by
  cases c with
  | runaway p =>
    unfold State.tripFault
    dsimp only
    split_ifs <;> rfl
  | _ => rfl

theorem State.tripMains_group {s : State} (h : s.stopUnit.mains = .closed) (c : TripCause) (g : GroupId) :
    (s.tripMains c).group g = s.faultOutcome (s.tripFault c g) g := by
  rw [State.tripMains_closed h]
  exact (State.faultGroups_group _ allGroups_nodup _ g).trans (if_pos (List.mem_finRange g))

theorem State.tripMains_order {s : State} (h : s.stopUnit.mains = .closed) (c : TripCause) : s.tripMains c =
    (allGroups.filter fun g => (s.group g).state == .moving || (s.group g).state == .stopping).foldl
      (fun t g => t.faultGroup g (s.tripFault c g).kind (s.tripFault c g).subject) (s.tripped c) := by
  rw [State.tripMains_closed h]
  exact State.faultGroups_eq_filter _ allGroups_nodup _

theorem State.tripMains_calm {s : State} (h : s.stopUnit.mains = .closed) (c : TripCause)
    (hrest : ∀ g, (s.group g).state ≠ .moving ∧ (s.group g).state ≠ .stopping) : s.tripMains c = s.tripped c := by
  have hnone : (allGroups.filter fun g => (s.group g).state == .moving || (s.group g).state == .stopping) = [] :=
    List.filter_eq_nil_iff.mpr fun g _ hactive => by
      obtain hmoving | hstopping := (Bool.or_eq_true _ _).mp hactive
      · exact (hrest g).1 (beq_iff_eq.mp hmoving)
      · exact (hrest g).2 (beq_iff_eq.mp hstopping)
  rw [State.tripMains_order h, hnone]
  rfl

/-! ## MAINS_CLOSE (R131) -/

theorem State.lowestRunaway_eq_none {s : State} (h : ∀ p, (s.point p).stop.runaway = false) : s.lowestRunaway = none :=
  List.find?_eq_none.mpr fun p _ hp => Bool.false_ne_true ((h p).symm.trans hp)

theorem State.lowestRunaway_eq_some {s : State} {p : PointId} (hp : (s.point p).stop.runaway = true)
    (hlower : ∀ k, k < p → (s.point k).stop.runaway = false) : s.lowestRunaway = some p := by
  rw [State.lowestRunaway, List.find?_eq_some_iff_getElem]
  refine ⟨hp, p, by simp [allPoints], by simp [allPoints], fun j hj => ?_⟩
  have hbelow := hlower ⟨j, hj.trans p.isLt⟩ hj
  simpa [allPoints] using hbelow

/-! ## Runaways (R125, R126) -/

theorem State.allowanceOut_iff (s : State) (p : PointId) :
    s.allowanceOut p = true ↔ ∀ t, (s.point p).lastRun = some t → t + 1500 ≤ s.now := by
  unfold State.allowanceOut
  split
  next h => simp [h]
  next t h =>
    rw [decide_eq_true_iff]
    simp [h, Config.runawayAllowance]

/-- R126: the flag is set, RUNAWAY goes to every port, and the mains trips. -/
def State.ranAway (s : State) (p : PointId) : State :=
  ((s.setStop p { (s.point p).stop with runaway := true }).notifyAll .runaway (.point p)).tripMains (.runaway p)

theorem State.runaway_clear {s : State} {p : PointId} (h : (s.point p).stop.runaway = false) : s.runaway p = s.ranAway p :=
  if_neg fun hset => Bool.false_ne_true (h.symm.trans hset)

theorem State.runaway_set {s : State} {p : PointId} (h : (s.point p).stop.runaway = true) : s.runaway p = s := if_pos h

theorem State.examineRunaway_eq (s : State) (p : PointId) (v : Sense) : s.examineRunaway p v =
    if v ≠ .still ∧ (∀ t, (s.point p).lastRun = some t → t + 1500 ≤ s.now) ∧ (s.point p).stop.runaway = false then
      s.ranAway p
    else s := by
  have hout := s.allowanceOut_iff p
  unfold State.examineRunaway
  cases hset : (s.point p).stop.runaway with
  | true => rw [State.runaway_set hset, ite_self, if_neg fun h => Bool.false_ne_true h.2.2.symm]
  | false =>
    rw [State.runaway_clear hset]
    exact if_congr (by rw [hout]; simp) rfl rfl

theorem exec_runawayAllowanceExpiry {s : State} (hrun : s.inReset = false) (p : PointId) :
    exec (.runawayAllowanceExpiry p) s = .next (s.allowanceExpiry p).flushPrompts :=
  congrArg Host.Outcome.next (State.event_running hrun _)

theorem State.allowanceExpiry_out {s : State} {p : PointId} {t : Nat} (hmark : (s.point p).lastRun = some t)
    (hout : t + 1500 ≤ s.now) (hbound : (s.point p).boundSlot ≠ none) (hmoves : s.sense p = some .up ∨ s.sense p = some .down)
    (hclear : (s.point p).stop.runaway = false) : s.allowanceExpiry p = s.ranAway p := by
  have hallowance : s.allowanceOut p = true :=
    (s.allowanceOut_iff p).mpr fun t' ht' => Option.some.inj (hmark.symm.trans ht') ▸ hout
  unfold State.allowanceExpiry
  rw [if_pos ⟨by rw [hmark]; rfl, hallowance, Option.isSome_iff_ne_none.mpr hbound, hmoves⟩]
  exact State.runaway_clear hclear

theorem State.allowanceExpiry_idle {s : State} {p : PointId}
    (h : (s.point p).lastRun = none ∨ (∃ t, (s.point p).lastRun = some t ∧ s.now < t + 1500) ∨
      (s.point p).boundSlot = none ∨ s.sense p = none ∨ s.sense p = some .still ∨ (s.point p).stop.runaway = true) :
    s.allowanceExpiry p = s := by
  unfold State.allowanceExpiry
  split_ifs with hdue
  · obtain ⟨hmark, hallowance, hbound, hmoves⟩ := hdue
    obtain hnone | ⟨t, ht, hearly⟩ | hunbound | hunknown | hstill | hset := h
    · simp [hnone] at hmark
    · exact absurd ((s.allowanceOut_iff p).mp hallowance t ht) (Nat.not_le.mpr hearly)
    · simp [hunbound] at hbound
    · simp [hunknown] at hmoves
    · simp [hstill] at hmoves
    · exact State.runaway_set hset
  · rfl

/-! ## The ESTOP line (R128, R129) -/

theorem exec_estopAssertion {s : State} (hrun : s.inReset = false) (hquiet : s.Quiet) :
    exec .estopAssertion s = (if s.stopUnit.estop then .next s
      else .next (((s.setStopUnit { s.stopUnit with estop := true }).notifyAll .estop .none).tripMains .estop).flushPrompts) := by
  refine (congrArg Host.Outcome.next (State.event_running hrun _)).trans ?_
  split_ifs
  · rw [State.flushPrompts_quiet hquiet]
  · rfl

theorem exec_estopRelease {s : State} (hrun : s.inReset = false) (hquiet : s.Quiet) :
    exec .estopRelease s = if s.stopUnit.estop then
      .next ((s.setStopUnit { s.stopUnit with estop := false }).notifyAll .estopClear .none).flushPrompts else .next s := by
  refine (congrArg Host.Outcome.next (State.event_running hrun _)).trans ?_
  split_ifs
  · rfl
  · rw [State.flushPrompts_quiet hquiet]

/-- Settles O45: the trip group by group, the two mains requests, the ESTOP line, and runaways. -/
theorem mainsTripsClosesAndRunsAway : Obligations.MainsTripsClosesAndRunsAway := by
  unfold Obligations.MainsTripsClosesAndRunsAway
  refine ⟨fun s hrun => ?line, ⟨fun s c => ⟨fun htripped => ?_, fun hclosed => ⟨fun g => ?group, ?frame, ?order,
    fun hrest => ?calm⟩⟩, fun s q tag htakes => ⟨fun hestop => ?estop, fun hestop p hp hlower => ?runaway,
    fun hestop hnone => ?close, ?opens⟩, fun s hrun hquiet => ⟨exec_estopAssertion hrun hquiet,
    exec_estopRelease hrun hquiet⟩⟩, fun s p => ⟨s.examineRunaway_eq p, fun hrun hquiet =>
    ⟨fun t hmark hout hbound hmoves hclear => ?expires, fun hidle => ?idle⟩⟩⟩
  case line =>
    rw [State.mainsLine, hrun]
    simp
  · exact State.tripMains_of_tripped (by rw [htripped]; simp) c
  case group =>
    refine (State.tripMains_group hclosed c g).trans (if_congr Iff.rfl ?_ rfl)
    refine (s.tripFault_fields c g (s.group g).faulted).trans ?_
    cases c <;> rfl
  case frame =>
    have hframe := (blind_faultAll (s.tripFault c)).2 (s.tripped c)
    rw [State.tripMains_closed hclosed]
    cases c <;> exact hframe
  case order =>
    refine (State.tripMains_order hclosed c).trans ?_
    have hone : (fun (t : State) g => t.faultGroup g (s.tripFault c g).kind (s.tripFault c g).subject) = fun t g =>
        match c with
        | .estop => t.faultGroup g .estop none
        | .runaway p => if (s.point p).group = some g then t.faultGroup g .runaway (some p) else t.faultGroup g .mains none
        | _ => t.faultGroup g .mains none :=
      funext₂ fun t g => s.tripFault_fields c g (t.faultGroup g)
    rw [hone]
    cases c <;> rfl
  case calm =>
    refine (State.tripMains_calm hclosed c hrest).trans ?_
    cases c <;> rfl
  case estop =>
    exact congrArg Host.Outcome.next (State.request_denies htakes 0x52 tag _ (.blocked .estop none) (if_pos hestop))
  case runaway =>
    refine congrArg Host.Outcome.next (State.request_denies htakes 0x52 tag _ (.blocked .runaway (some p)) ?_)
    have hlowest : (s.touched q).lowestRunaway = some p := State.lowestRunaway_eq_some hp hlower
    simp only [reqMainsClose, State.touched_stopUnit, hestop, hlowest, Bool.false_eq_true, if_false]
  case close =>
    refine congrArg Host.Outcome.next (State.request_calm htakes 0x52 tag _
      (s.setStopUnit { s.stopUnit with mains := .closed }) (.ok [0]) htakes.quiet ?_)
    have hlowest : (s.touched q).lowestRunaway = none := State.lowestRunaway_eq_none hnone
    simp only [reqMainsClose, State.touched_stopUnit, hestop, hlowest, Bool.false_eq_true, if_false]
    rfl
  case opens =>
    refine congrArg Host.Outcome.next (State.request_effect htakes 0x53 tag _ (s.tripMains (.opened q)) (.ok [1]) ?_)
    rw [reqMainsOpen, State.touched_tripMains, State.touched_stopUnit, State.tripMains_mains]
    rfl
  case expires =>
    rw [exec_runawayAllowanceExpiry hrun, State.allowanceExpiry_out hmark hout hbound hmoves hclear]
    rfl
  case idle =>
    rw [exec_runawayAllowanceExpiry hrun, State.allowanceExpiry_idle hidle, State.flushPrompts_quiet hquiet]

end Sys2Proof.Machine
end

section
/-!
Firing cues and their reports (O48).
-/
namespace Sys2Proof.Machine

open Sys2Proof

/-! ## One fire (R147, R180) -/

theorem State.notifyOpt_setCue (s : State) (o : Option Port) (k : NoticeKind) (u : Subject) (c : Cue) :
    (s.notifyOpt o k u).setCue c = (s.setCue c).notifyOpt o k u := by
  cases o <;> rfl

/-- The engine waits for group g, whose move the entry at the pointer has fired, and CUE_FIRED goes to the owner. -/
def State.cueMoves (s : State) (c : Cue) (g : GroupId) : State :=
  (s.setCue (c.fired c.pointer g)).notifyOpt c.owner .cueFired (.cue c.pointer)

theorem State.cueMoves_cue (s : State) (c : Cue) (g : GroupId) : (s.cueMoves c g).cue = c.fired c.pointer g :=
  State.notifyOpt_cue ..

theorem State.start_keepsCue {s t : State} {o : Option Port} {g : GroupId} {m : Move} {x : StartResult}
    (hstart : s.start o .cue g m = (t, x)) : t.cue = s.cue := by
  have hcue := s.start_cue o .cue g m
  rwa [hstart] at hcue

section Fire

variable {s : State} {e : CueEntry} (he : s.cue.list[s.cue.pointer]? = some e)
include he

theorem State.fireEntry_stop (hstop : e.action = .stop) {t : State} (ht : t = s.stopGroup e.group .cue) {c : Cue}
    (hc : c = { t.cue with firedIndex := some s.cue.pointer, pointer := s.cue.pointer + 1, stall := none }) :
    s.fireEntry = (if s.cue.pointer + 1 < t.cue.list.length then
        (t.setCue { c with state := .ready }).notifyOpt t.cue.owner .cueFired (.cue s.cue.pointer)
      else ((t.setCue { c with state := .done }).notifyOpt t.cue.owner .cueFired (.cue s.cue.pointer)).notifyOpt t.cue.owner
        .cueEnd .none, .fired) := by
  have hmove : e.move = none := by rw [CueEntry.move, hstop]
  have howner : c.owner = t.cue.owner := by rw [hc]
  have hpointer : c.pointer = s.cue.pointer + 1 := by rw [hc]
  have hlist : c.list = t.cue.list := by rw [hc]
  have hfire : s.fireEntry =
      (((t.setCue c).notifyOpt c.owner .cueFired (.cue s.cue.pointer)).cueReadyOrEnd, .fired) := by
    rw [hc, ht]
    simp only [State.fireEntry, he, hmove]
    rfl
  rw [hfire, State.cueReadyOrEnd, State.notifyOwner]
  simp only [State.notifyOpt_cue, State.setCue_cue, State.notifyOpt_setCue, howner, hpointer, hlist]
  rfl

variable {m : Move} (hmove : e.move = some m)
include hmove

theorem State.fireEntry_refused {t : State} {x : Reject} (hstart : s.start s.cue.owner .cue e.group m = (t, .refused x)) :
    s.fireEntry = ((s.setCue { s.cue with state := .stalled, stall := some (.refused x) }).notifyOpt s.cue.owner .cueStall
      (.cue s.cue.pointer), .refused) := by
  simp only [State.fireEntry, he, hmove, hstart]
  rfl

theorem State.fireEntry_moving {t : State} (hstart : s.start s.cue.owner .cue e.group m = (t, .moving)) :
    s.fireEntry = (t.cueMoves s.cue e.group, .fired) := by
  have hcue := State.start_keepsCue hstart
  simp only [State.fireEntry, he, hmove, hstart, hcue]
  rfl

theorem State.fireEntry_atOnce {t : State} (hstart : s.start s.cue.owner .cue e.group m = (t, .atOnce)) :
    s.fireEntry = (t.cueMoves s.cue e.group, .atOnce) := by
  have hcue := State.start_keepsCue hstart
  simp only [State.fireEntry, he, hmove, hstart, hcue]
  rfl

end Fire

/-- A fire whose START ended at once leaves the engine waiting for the DONE report of its group. -/
theorem State.fireEntry_waits {s : State} (h : s.fireEntry.2 = .atOnce) :
    ∃ g, s.fireEntry.1.cue = s.cue.fired s.cue.pointer g := by
  cases he : s.cue.list[s.cue.pointer]? with
  | none =>
    simp only [State.fireEntry, he] at h
    exact nomatch h
  | some e =>
    cases hmove : e.move with
    | none =>
      have hstop : e.action = .stop := by
        unfold CueEntry.move at hmove
        split at hmove
        next => exact nomatch hmove
        next => exact nomatch hmove
        next hstop => exact hstop
      rw [State.fireEntry_stop he hstop rfl rfl] at h
      exact nomatch h
    | some m =>
      obtain ⟨t, x, hstart⟩ : ∃ t x, s.start s.cue.owner .cue e.group m = (t, x) := ⟨_, _, rfl⟩
      cases x with
      | refused r =>
        rw [State.fireEntry_refused he hmove hstart] at h
        exact nomatch h
      | moving =>
        rw [State.fireEntry_moving he hmove hstart] at h
        exact nomatch h
      | atOnce =>
        rw [State.fireEntry_atOnce he hmove hstart]
        exact ⟨e.group, t.cueMoves_cue s.cue e.group⟩

theorem State.fire_atOnce {s u : State} (h : s.fireEntry = (u, .atOnce)) : s.fire = (u.cueDone, .atOnce) := by
  simp only [State.fire, h]

theorem State.fire_alone {s u : State} {x : FireResult} (h : s.fireEntry = (u, x)) (hx : x ≠ .atOnce) : s.fire = (u, x) := by
  cases x with
  | refused => simp only [State.fire, h]
  | fired => simp only [State.fire, h]
  | atOnce => exact absurd rfl hx

/-! ## Reports (R148) -/

/-- The report of the fired group has been taken. -/
def State.cueReported (s : State) : State := s.setCue { s.cue with firedGroup := none }

theorem State.follows_iff (s : State) : s.follows = true ↔
    (s.cue.firedIndex.bind fun k => s.cue.list[k]?).map CueEntry.follow = some true := by
  unfold State.follows
  split
  next k hk =>
    rw [hk, Option.bind_some]
    split
    next e he => rw [he, Option.map_some, Option.some.injEq]
    next he => simp [he]
  next hk => simp [hk]

/-- With nothing to follow the engine is READY or DONE, however long the chain may be. -/
theorem State.cueChain_ends {s : State} (h : ¬ (s.follows = true ∧ s.cue.pointer < s.cue.list.length)) (n : Nat) :
    State.cueChain n s = s.cueReported.cueReadyOrEnd := by
  cases n with
  | zero => rfl
  | succ n => exact if_neg h

theorem State.cueChain_follows {s : State} (h : s.follows = true) (hentry : s.cue.pointer < s.cue.list.length) (n : Nat) :
    State.cueChain (n + 1) s = if s.cueReported.fireEntry.2 = .atOnce then State.cueChain n s.cueReported.fireEntry.1
      else s.cueReported.fireEntry.1 := by
  refine (if_pos ⟨h, hentry⟩).trans ?_
  change (match s.cueReported.fireEntry with
    | (s2, .atOnce) => State.cueChain n s2
    | (s2, .fired) => s2
    | (s2, .refused) => s2) = _
  obtain ⟨t, x⟩ := s.cueReported.fireEntry
  cases x <;> rfl

/-- A chain as long as the entries that are left is long enough: each fire raises the pointer. -/
theorem State.cueChain_enough (n : Nat) {s : State} {m : Nat} (hn : s.cue.list.length ≤ s.cue.pointer + n)
    (hm : s.cue.list.length ≤ s.cue.pointer + m) : State.cueChain n s = State.cueChain m s := by
  induction n generalizing s m with
  | zero =>
    have hend : ¬ (s.follows = true ∧ s.cue.pointer < s.cue.list.length) := fun h => Nat.not_lt.mpr hn h.2
    rw [State.cueChain_ends hend, State.cueChain_ends hend]
  | succ n ih =>
    by_cases hgoes : s.follows = true ∧ s.cue.pointer < s.cue.list.length
    · obtain ⟨hfollows, hentry⟩ := hgoes
      obtain ⟨m, rfl⟩ : ∃ k, m = k + 1 := Nat.exists_eq_add_one.mpr (by omega)
      rw [State.cueChain_follows hfollows hentry, State.cueChain_follows hfollows hentry]
      refine ite_congr rfl (fun honce => ?_) fun _ => rfl
      obtain ⟨g, hcue⟩ := State.fireEntry_waits honce
      refine ih ?_ ?_ <;> rw [hcue] <;> dsimp only [Cue.fired, State.cueReported, State.setCue_cue] <;> omega
    · rw [State.cueChain_ends hgoes, State.cueChain_ends hgoes]

theorem State.cueCompleted_fired {s : State} {g : GroupId} (hrun : s.cue.state = .running)
    (hgroup : s.cue.firedGroup = some g) : s.cueCompleted g = s.cueDone := if_pos ⟨hrun, hgroup⟩

theorem State.cueDone_follows {s : State} (h : s.follows = true) (hentry : s.cue.pointer < s.cue.list.length) :
    (s.cueReported.fireEntry.2 ≠ .atOnce → s.cueDone = s.cueReported.fireEntry.1) ∧
      (s.cueReported.fireEntry.2 = .atOnce → s.cueDone = s.cueReported.fireEntry.1.cueDone) := by
  obtain ⟨n, hn⟩ : ∃ n, s.cue.list.length = n + 1 := Nat.exists_eq_add_one.mpr (Nat.zero_lt_of_lt hentry)
  have hchain : s.cueDone = State.cueChain (n + 1) s := by rw [State.cueDone, hn]
  rw [hchain, State.cueChain_follows h hentry]
  refine ⟨fun hone => if_neg hone, fun honce => (if_pos honce).trans ?_⟩
  obtain ⟨g, hcue⟩ := State.fireEntry_waits honce
  refine State.cueChain_enough n ?_ (Nat.le_add_left _ _)
  rw [hcue]
  dsimp only [Cue.fired, State.cueReported, State.setCue_cue]
  omega

/-- The move of an entry by its action (Table 7-1). -/
theorem CueEntry.move_eq {e : CueEntry} {m : Move}
    (h : (e.action = .moveTo ∧ m = .height e.value) ∨ (e.action = .moveBy ∧ m = .dist e.value)) : e.move = some m := by
  obtain ⟨haction, rfl⟩ | ⟨haction, rfl⟩ := h <;> rw [CueEntry.move, haction]

/-- Settles O48: one fire by its entry and its START, then the reports with the chain of follows. -/
theorem cuesFireAndReport : Obligations.CuesFireAndReport := by
  unfold Obligations.CuesFireAndReport
  refine ⟨fun s e he => ⟨fun hstop => ?stop, fun mv hmv => ?move⟩, fun s g why => ⟨fun hother => ⟨if_neg hother, if_neg hother⟩,
    fun hrun hgroup => ⟨?failed, fun hlast => ?last, fun hfollow hentry => ?one, fun hfollow hentry honce h hh => ?chain⟩⟩⟩
  case stop =>
    rw [State.fire_alone (State.fireEntry_stop he hstop rfl rfl) nofun]
    exact ⟨rfl, rfl⟩
  case move =>
    have hmove := CueEntry.move_eq hmv
    refine ⟨fun t x hstart => State.fire_alone (State.fireEntry_refused he hmove hstart) nofun,
      fun t hstart => State.fire_alone (State.fireEntry_moving he hmove hstart) nofun, fun t hstart => ?_⟩
    have hcue := t.cueMoves_cue s.cue e.group
    have hdone : (t.cueMoves s.cue e.group).cueCompleted e.group = (t.cueMoves s.cue e.group).cueDone :=
      State.cueCompleted_fired (by rw [hcue]; rfl) (by rw [hcue]; rfl)
    exact (State.fire_atOnce (State.fireEntry_atOnce he hmove hstart)).trans (congrArg (·, FireResult.atOnce) hdone.symm)
  case failed =>
    exact (if_pos ⟨hrun, hgroup⟩).trans rfl
  case last =>
    have hend : ¬ (s.follows = true ∧ s.cue.pointer < s.cue.list.length) := fun hgoes =>
      hlast.elim (fun h => h (s.follows_iff.mp hgoes.1)) fun h => Nat.not_lt.mpr h hgoes.2
    exact ((State.cueCompleted_fired hrun hgroup).trans (State.cueChain_ends hend _)).trans rfl
  case one =>
    exact fun hone => (State.cueCompleted_fired hrun hgroup).trans
      ((State.cueDone_follows (s.follows_iff.mpr hfollow) hentry).1 hone)
  case chain =>
    obtain ⟨g', hcue⟩ := State.fireEntry_waits honce
    have hstate : s.cueReported.fireEntry.1.cue.state = .running := by
      rw [State.cueReported, hcue]
      rfl
    refine ⟨hstate, (State.cueCompleted_fired hrun hgroup).trans ?_⟩
    exact ((State.cueDone_follows (s.follows_iff.mpr hfollow) hentry).2 honce).trans
      (State.cueCompleted_fired hstate hh).symm

end Sys2Proof.Machine
end

section
/-!
The GOs of the console and of the CUE line (O49).
-/
namespace Sys2Proof.Machine

open Sys2Proof

/-! ## A fire after a frame's arrival -/

theorem State.touched_notifyHolder (s : State) (q : Port) (g : GroupId) (k : NoticeKind) (u : Subject) :
    (s.touched q).notifyHolder g k u = (s.notifyHolder g k u).touched q :=
  s.touched_notifyOpt q _ k u

theorem State.touched_notifyOwner (s : State) (q : Port) (k : NoticeKind) (u : Subject) :
    (s.touched q).notifyOwner k u = (s.notifyOwner k u).touched q :=
  s.touched_notifyOpt q _ k u

theorem State.touched_begin (s : State) (q : Port) (g : GroupId) (k : MoveKind) (d : Dir) (o : MoveOrigin) (a : Option Int) :
    (s.touched q).begin g k d o a = (s.begin g k d o a).touched q := rfl

theorem State.touched_limited (s : State) (q : Port) (g : GroupId) (D E : Int) :
    (if E = D then s.touched q else (s.touched q).notifyHolder g .targetClamped (.group g)) =
      (if E = D then s else s.notifyHolder g .targetClamped (.group g)).touched q := by
  rw [State.touched_notifyHolder, apply_ite (State.touched · q)]

/-- A TARGET move is limited from the members' positions and soft limits, which an arrival leaves. -/
theorem State.touched_startTarget (s : State) (q : Port) {o : Option Port} {g : GroupId} {m : Move} (hm : ∀ d, m ≠ .jog d)
    (hcheck : s.startCheck o g m = none) (origin : MoveOrigin) :
    (s.touched q).start o origin g m = ((s.start o origin g m).1.touched q, (s.start o origin g m).2) := by
  have hcheck' : (s.touched q).startCheck o g m = none := (s.touched_startCheck q o g m).trans hcheck
  have htravel : (s.touched q).travel g m = s.travel g m := rfl
  have hclamp : (s.touched q).clampTravel g (s.travel g m) = s.clampTravel g (s.travel g m) := rfl
  cases m with
  | jog d => exact absurd rfl (hm d)
  | _ =>
    simp only [State.start, hcheck, hcheck', htravel, hclamp, State.touched_limited]
    split
    next => rfl
    next => rw [State.touched_notifyHolder]

theorem State.touched_start (s : State) (q : Port) (o : Option Port) (origin : MoveOrigin) (g : GroupId) (m : Move) :
    (s.touched q).start o origin g m = ((s.start o origin g m).1.touched q, (s.start o origin g m).2) := by
  cases hcheck : s.startCheck o g m with
  | some r =>
    have hcheck' : (s.touched q).startCheck o g m = some r := (s.touched_startCheck q o g m).trans hcheck
    simp only [State.start, hcheck, hcheck']
  | none =>
    cases m with
    | height x => exact s.touched_startTarget (m := .height x) q nofun hcheck origin
    | dist x => exact s.touched_startTarget (m := .dist x) q nofun hcheck origin
    | jog d =>
      have hcheck' : (s.touched q).startCheck o g (.jog d) = none := (s.touched_startCheck q o g _).trans hcheck
      have hlimit : (s.touched q).atLimit d = s.atLimit d := rfl
      cases hfind : ((s.group g).members.map Member.point).find? (s.atLimit d) with
      | some p => simp only [State.start, hcheck, hcheck', State.touched_group, hlimit, hfind, State.touched_notifyHolder]
      | none => simp only [State.start, hcheck, hcheck', State.touched_group, hlimit, hfind, State.touched_begin]

theorem State.touched_cueReadyOrEnd (s : State) (q : Port) : (s.touched q).cueReadyOrEnd = s.cueReadyOrEnd.touched q := by
  simp only [State.cueReadyOrEnd, State.touched_cue, State.touched_setCue, State.touched_notifyOwner,
    apply_ite (State.touched · q)]

theorem State.touched_fireEntry (s : State) (q : Port) :
    (s.touched q).fireEntry = (s.fireEntry.1.touched q, s.fireEntry.2) := by
  cases he : s.cue.list[s.cue.pointer]? with
  | none => simp only [State.fireEntry, State.touched_cue, he]
  | some e =>
    cases hmove : e.move with
    | none =>
      simp only [State.fireEntry, State.touched_cue, he, hmove, State.touched_stopGroup, State.touched_setCue,
        State.touched_notifyOwner, State.touched_cueReadyOrEnd]
    | some m =>
      have hstart := s.touched_start q s.cue.owner .cue e.group m
      obtain ⟨t, x, hgoes⟩ : ∃ t x, s.start s.cue.owner .cue e.group m = (t, x) := ⟨_, _, rfl⟩
      rw [hgoes] at hstart
      cases x <;>
        simp only [State.fireEntry, State.touched_cue, he, hmove, hgoes, hstart, State.touched_setCue,
          State.touched_notifyOwner]

theorem State.touched_cueReported (s : State) (q : Port) : (s.touched q).cueReported = s.cueReported.touched q := rfl

theorem State.touched_cueChain (q : Port) (n : Nat) (s : State) :
    State.cueChain n (s.touched q) = (State.cueChain n s).touched q := by
  induction n generalizing s with
  | zero => exact s.cueReported.touched_cueReadyOrEnd q
  | succ n ih =>
    by_cases hgoes : s.follows = true ∧ s.cue.pointer < s.cue.list.length
    · rw [State.cueChain_follows hgoes.1 hgoes.2, State.cueChain_follows (s := s.touched q) hgoes.1 hgoes.2,
        State.touched_cueReported, State.touched_fireEntry]
      dsimp only
      rw [ih, apply_ite (State.touched · q)]
    · rw [State.cueChain_ends hgoes, State.cueChain_ends (s := s.touched q) hgoes, State.touched_cueReported,
        State.touched_cueReadyOrEnd]

theorem State.touched_fire (s : State) (q : Port) : (s.touched q).fire = (s.fire.1.touched q, s.fire.2) := by
  have hentry := s.touched_fireEntry q
  obtain ⟨t, x, hfire⟩ : ∃ t x, s.fireEntry = (t, x) := ⟨_, _, rfl⟩
  rw [hfire] at hentry
  cases x with
  | atOnce =>
    rw [State.fire_atOnce hfire, State.fire_atOnce hentry]
    exact congrArg (·, FireResult.atOnce) (State.touched_cueChain q _ t)
  | _ => rw [State.fire_alone hfire nofun, State.fire_alone hentry nofun]

/-! ## A GO of the console (R145, R146) -/

theorem State.goFire_eq (s : State) :
    s.goFire = (s.fire.1, if s.fire.2 = .refused then .stalled else .fired) := by
  obtain ⟨t, x, hfire⟩ : ∃ t x, s.fire = (t, x) := ⟨_, _, rfl⟩
  cases x <;> simp [State.goFire, hfire]

theorem State.touched_goFire (s : State) (q : Port) : (s.touched q).goFire = (s.goFire.1.touched q, s.goFire.2) := by
  rw [State.goFire_eq, State.goFire_eq, State.touched_fire]

theorem State.touched_consoleGo (s : State) (q : Port) :
    (s.touched q).consoleGo = (s.consoleGo.1.touched q, s.consoleGo.2) := by
  unfold State.consoleGo
  rw [State.touched_cue]
  cases s.cue.state with
  | off => rfl
  | done => rfl
  | ready => exact s.touched_goFire q
  | running => exact congrArg (·, GoOutcome.early) (s.touched_notifyOwner q _ _)
  | stalled =>
    by_cases hentry : s.cue.pointer < s.cue.list.length
    · simp only [if_pos hentry]
      exact s.touched_goFire q
    · simp only [if_neg hentry]
      exact congrArg (·, GoOutcome.ignored) (s.touched_cueReadyOrEnd q)

theorem GoSource.fromConsole_iff (x : GoSource) : x.fromConsole = true ↔ x ≠ .line := by
  cases x <;> simp [GoSource.fromConsole]

theorem GoSource.fromLine_iff (x : GoSource) : x.fromLine = true ↔ x ≠ .console := by
  cases x <;> simp [GoSource.fromLine]

section Console

variable {s : State} {q : Port} (htakes : s.Takes q) (hown : s.cue.owner = some q)
include htakes hown

theorem exec_cueGo_refused (hsource : s.cue.source = .line) (tag : Byte) :
    exec (.cueGo q tag) s = .next (s.answered q 0xE7 tag [8, 17, 0]) :=
  congrArg Host.Outcome.next (State.request_denies htakes 0x67 tag _ (.blocked .goSource none) (by
    rw [reqCueGo, State.ownerOnly_owner (s := s.touched q) hown, State.touched_cue, hsource]
    rfl))

/-- R145: a GO that the source takes answers its outcome and the engine's fields after it. -/
theorem exec_cueGo_taken (hsource : s.cue.source ≠ .line) {t : State} {o : GoOutcome} (hgo : s.consoleGo = (t, o)) (tag : Byte) :
    exec (.cueGo q tag) s = .next (t.answered q 0xE7 tag ([0, o.code, optCue t.cue.firedIndex] ++ stallBytes t.cue.stall ++
      [t.cue.state.code, byte t.cue.pointer])).flushPrompts := by
  refine (congrArg Host.Outcome.next (State.request_effect htakes 0x67 tag _ t (.ok (o.code ::
    optCue t.cue.firedIndex :: stallBytes t.cue.stall ++ [t.cue.state.code, byte t.cue.pointer])) ?_)).trans rfl
  have htaken := s.touched_consoleGo q
  rw [hgo] at htaken
  rw [reqCueGo, State.ownerOnly_owner (s := s.touched q) hown, State.touched_cue, if_pos ((GoSource.fromConsole_iff _).mpr hsource), htaken]
  rfl

end Console

/-! ## A GO of the CUE line (R143, R144) -/

theorem LineMode.calls_iff (m : LineMode) (v : Level) :
    m.calls v = true ↔ (v = .high ∧ (m = .rise ∨ m = .high)) ∨ (v = .low ∧ (m = .fall ∨ m = .low)) := by
  cases m <;> cases v <;> simp [LineMode.calls]

theorem LineMode.holds_iff (m : LineMode) (v : Level) :
    m.holds v = true ↔ (m = .high ∧ v = .high) ∨ (m = .low ∧ v = .low) := by
  cases m <;> cases v <;> simp [LineMode.holds]

/-- Table 7-4 for a line GO, at the event's end. -/
theorem State.lineGo_ends {s u : State} (hquiet : s.Quiet)
    (hu : u = s.setCue { s.cue with rearm := some (s.now + 250) }) :
    Host.Outcome.next (φ := Fault) (ρ := Refusal) s.lineGo.flushPrompts =
      if s.cue.state = .ready then .next u.fire.1.flushPrompts
      else if s.cue.state = .running then
        .next (u.notifyOpt s.cue.owner .cueEarly (cueSubject s.cue.firedIndex)).flushPrompts
      else .next u := by
  have huquiet : u.Quiet := by
    rw [hu]
    exact hquiet
  have htimer : s.setCue { s.cue with rearm := s.timer Config.rearmTime } = u := hu.symm
  have hearly : u.goEarly = u.notifyOpt s.cue.owner .cueEarly (cueSubject s.cue.firedIndex) := by
    rw [State.goEarly, State.notifyOwner, hu]
    rfl
  simp only [State.lineGo, htimer]
  cases s.cue.state with
  | ready => simp only [State.goFire_eq, if_true]
  | running => simp only [hearly, reduceCtorEq, if_false, if_true]
  | _ => simp only [State.flushPrompts_quiet huquiet, reduceCtorEq, if_false]

theorem exec_cueLineChange {s : State} (hrun : s.inReset = false) (v : Level) :
    exec (.cueLineChange v) s = .next (s.lineChange v).flushPrompts :=
  congrArg Host.Outcome.next (State.event_running hrun _)

theorem exec_rearmTimerExpiry {s : State} (hrun : s.inReset = false) :
    exec .rearmTimerExpiry s = .next s.rearmExpiry.flushPrompts :=
  congrArg Host.Outcome.next (State.event_running hrun _)

/-- Settles O49: the console's GO by the engine's state, then the line's by source, re-arm timer and mode. -/
theorem gosActByStateAndSource : Obligations.GosActByStateAndSource := by
  unfold Obligations.GosActByStateAndSource
  refine ⟨fun s q tag htakes hown => ⟨fun hline => exec_cueGo_refused htakes hown hline tag, fun hsource =>
    ⟨fun hidle => ?idle, fun hrunning => ?early, fun hfires => ?fires, fun hstalled hend => ?last⟩⟩, fun s hrun hquiet =>
    ⟨?same, fun v hv => ⟨fun hsource hrearm hcalls => ?goes, fun hnot => ?passes⟩,
      fun d hd hdue => ⟨fun hsource hheld => ?held, fun hnot => ?released⟩, fun hearly => ?notDue⟩⟩
  case idle =>
    have hgo : s.consoleGo = (s, .ignored) := by
      obtain hstate | hstate := hidle <;> simp only [State.consoleGo, hstate]
    exact exec_cueGo_taken htakes hown hsource hgo tag
  case early =>
    have hgo : s.consoleGo = (s.notify q .cueEarly (cueSubject s.cue.firedIndex), .early) := by
      simp only [State.consoleGo, hrunning, State.goEarly, State.notifyOwner, hown, State.notifyOpt]
    exact exec_cueGo_taken htakes hown hsource hgo tag
  case fires =>
    have hgo : s.consoleGo = (s.fire.1, if s.fire.2 = .refused then .stalled else .fired) := by
      rw [← State.goFire_eq]
      obtain hready | ⟨hstalled, hentry⟩ := hfires
      · simp only [State.consoleGo, hready]
      · simp only [State.consoleGo, hstalled, if_pos hentry]
    refine ⟨fun hrefused => ?_, fun htaken => ?_⟩
    · rw [if_pos hrefused] at hgo
      exact exec_cueGo_taken htakes hown hsource hgo tag
    · rw [if_neg htaken] at hgo
      exact exec_cueGo_taken htakes hown hsource hgo tag
  case last =>
    have hgo : s.consoleGo = ((s.setCue { s.cue with state := .done }).notify q .cueEnd .none, .ignored) := by
      simp only [State.consoleGo, hstalled, if_neg (Nat.not_lt.mpr hend), State.cueReadyOrEnd_of_le hown hend]
    exact exec_cueGo_taken htakes hown hsource hgo tag
  case same =>
    rw [exec_cueLineChange hrun, State.lineChange, if_pos rfl, State.flushPrompts_quiet hquiet]
  case goes =>
    rw [exec_cueLineChange hrun, State.lineChange, if_neg hv.symm]
    dsimp only
    rw [if_pos ⟨(GoSource.fromLine_iff _).mpr hsource, hrearm, (LineMode.calls_iff _ v).mpr hcalls⟩]
    exact State.lineGo_ends (s := s.setCue { s.cue with level := v }) hquiet rfl
  case passes =>
    have hno : ¬ (s.cue.source.fromLine = true ∧ s.cue.rearm = none ∧ s.cue.mode.calls v = true) := fun hgo => by
      obtain hconsole | hrunning | hcalls := hnot
      · exact (GoSource.fromLine_iff _).mp hgo.1 hconsole
      · exact hrunning hgo.2.1
      · exact hcalls ((LineMode.calls_iff _ v).mp hgo.2.2)
    rw [exec_cueLineChange hrun, State.lineChange, if_neg hv.symm]
    dsimp only
    rw [if_neg hno]
    exact congrArg Host.Outcome.next (State.flushPrompts_quiet hquiet)
  case held =>
    have hdue' : s.due s.cue.rearm = true := by
      rw [hd]
      exact decide_eq_true hdue
    rw [exec_rearmTimerExpiry hrun, State.rearmExpiry, if_pos hdue']
    dsimp only
    rw [if_pos ⟨(GoSource.fromLine_iff _).mpr hsource, (LineMode.holds_iff _ _).mpr hheld⟩]
    exact State.lineGo_ends (s := s.setCue { s.cue with rearm := none }) hquiet rfl
  case released =>
    have hdue' : s.due s.cue.rearm = true := by
      rw [hd]
      exact decide_eq_true hdue
    have hno : ¬ (s.cue.source.fromLine = true ∧ s.cue.mode.holds s.cue.level = true) := fun hgo => by
      obtain hconsole | hheld := hnot
      · exact (GoSource.fromLine_iff _).mp hgo.1 hconsole
      · exact hheld ((LineMode.holds_iff _ _).mp hgo.2)
    rw [exec_rearmTimerExpiry hrun, State.rearmExpiry, if_pos hdue']
    dsimp only
    rw [if_neg hno]
    exact congrArg Host.Outcome.next (State.flushPrompts_quiet hquiet)
  case notDue =>
    have hnot : ¬ s.due s.cue.rearm = true := by
      cases hd : s.cue.rearm with
      | none => exact Bool.false_ne_true
      | some d => exact fun h => Nat.not_le.mpr (hearly d hd) (of_decide_eq_true h)
    rw [exec_rearmTimerExpiry hrun, State.rearmExpiry, if_neg hnot, State.flushPrompts_quiet hquiet]

end Sys2Proof.Machine
end
